-- ==== Sys2Proof/Word.lean ====
section
/-! DEFINITION. The words of the control line, the numbers of the part's objects (00 section 6.1),
and `Table`, a fixed number of like records. -/

namespace Sys2Proof

/-- One byte of the control line, a panel line or a lane. -/
abbrev Byte := BitVec 8
/-- A two-byte field of a control frame. -/
abbrev Half := BitVec 16
/-- A unit or station identity (R136, R144). -/
abbrev Ident := BitVec 40
/-- An audio sample in the signed 24-bit range, as an exact integer (00 section 6.2). -/
abbrev Sample := Int
/-- 48 consecutive samples (00 section 5). -/
abbrev Block := List Sample

/-! The numbering of 00 section 6.1. -/

abbrev PortNo := Fin 64
abbrev LaneNo := Fin 24
abbrev GroupNo := Fin 64
abbrev LineNo := Fin 2
abbrev PanelAddr := Fin 16
abbrev KeyNo := Fin 32
abbrev TalkId := Fin 128
abbrev HostTalkNo := Fin 16
abbrev SlotNo := Fin 24
abbrev BufNo := Fin 16
/-- Crosspoint, key and talk classes 0..3. -/
abbrev XpClass := Fin 4

/-- Exactly `n` records of one kind, numbered from 0. -/
structure Table (n : Nat) (α : Type) where
  cells : List α
  size_eq : cells.length = n
  deriving DecidableEq, Repr

namespace Table

variable {n : Nat} {α β : Type}

/-- Record `i`. -/
def get (t : Table n α) (i : Fin n) : α := t.cells.get (i.cast t.size_eq.symm)

/-- The table with record `i` replaced. -/
def set (t : Table n α) (i : Fin n) (x : α) : Table n α :=
  ⟨t.cells.set i x, by simp [t.size_eq]⟩

/-- `n` equal records. -/
def replicate (n : Nat) (x : α) : Table n α := ⟨List.replicate n x, by simp⟩

/-- The table whose record `i` is `f i`. -/
def tabulate (f : Fin n → α) : Table n α := ⟨List.ofFn f, by simp⟩

/-- Every record changed by `f`. -/
def map (f : α → β) (t : Table n α) : Table n β := ⟨t.cells.map f, by simp [t.size_eq]⟩

end Table

/-- A key's identity: panel line, panel address and key number (00 section 5). -/
structure KeyId where
  line : LineNo
  addr : PanelAddr
  key : KeyNo
  deriving DecidableEq, Repr

end Sys2Proof
end

