-- ==== Sys2Proof/Config.lean ====
section
/-! DEFINITION. The values the document leaves open. Each is a constant without a body, so that no
proof can see what it is and every claim holds whatever it is. They are applied to the state's free
value counter, which the step that uses one advances. -/

namespace Sys2Proof.Config

/-- The syndrome of a lane frame that fails only by its length: R132 says a syndrome is never 0, and
the XOR it defines is 0 or has no received check to use. Log entry 17. -/
opaque freeSyndrome : Nat → BitVec 16

/-- The press stamp of an AUTO key found HELD with no stamp (R109, R116). Log entry 16. -/
opaque freePressStamp : Nat → BitVec 16

end Sys2Proof.Config
end

