-- ==== Sys2Proof/Syntax.lean ====
section
/-! DEFINITION. The commands of the block: one constructor for each row of spec/opcode_table.json.
A host command's operands are its tag and the fields of its body at their wire widths (11 section
11.6), so that out-of-range and unknown values are operands too. An internal event's operand says
which object it happens to. -/

namespace Sys2Proof

/-- One reference period as it ends (R2): whether an edge earlier than 99% was discarded in it, and
the edge that came after that, if one came by 101%, as its offset from the nominal period in parts
per million (log entry 11). -/
structure RefPeriod where
  earlyEdge : Bool
  edge : Option Int
  deriving DecidableEq, Repr

/-- The mode byte of FILTER-SET and the filters it carries (R102). -/
inductive FilterArg where
  /-- SINGLE with a 20-bit code and mask. -/
  | single (code mask : BitVec 20)
  /-- DUAL with the code and mask of filters A and B. -/
  | dual (codeA maskA codeB maskB : BitVec 12)
  /-- A mode byte that names no mode. -/
  | unknown (mode : Byte)
  deriving DecidableEq, Repr

/-- The commands and events of the part, in the table's order. -/
inductive Instr where
  | hardwareReset
  | resetRelease
  | referencePeriodJudgement (p : RefPeriod)
  | mixPass (inputs : Table 64 (BitVec 24))
  | holdExpiry (port : PortNo)
  | frameBoundary
  | barredCountExpiry (lane : LaneNo)
  | controlFrameReceived (bytes : List Byte)
  | lineGapTimeout
  | commandDispatch
  | transmitComplete
  | identify (tag : Byte)
  | lineGet (tag : Byte)
  | restart (tag : Byte)
  | restartTakeEffect
  | stationIdSet (tag : Byte) (identity : Ident)
  | clockSetReference (tag : Byte)
  | clockSetFree (tag : Byte)
  | clockGet (tag : Byte)
  | portSetClass (tag port cls : Byte)
  | portSetLevels (tag port : Byte) (trim master : Half)
  | portSetIsolate (tag port onOff : Byte)
  | portSetDuck (tag port threshold : Byte) (depth attack hold release : Half)
  | portSetCancelOn (tag port : Byte) (level : Half) (returnSource : Byte)
  | portSetCancelOff (tag port : Byte)
  | portSetPanel (tag port line addr : Byte)
  | portSetLanes (tag port primary backup : Byte) (identity : Option Ident) (depth : Byte)
  | portGet (tag port : Byte)
  | xpSet (tag src dst : Byte) (level : Half) (cls : Byte)
  | xpClear (tag src dst : Byte)
  | xpList (tag dst start : Byte)
  | sceneBegin (tag : Byte)
  | sceneAbandon (tag : Byte)
  | sceneEntry (tag src dst : Byte) (level : Half) (cls : Byte)
  | sceneCommit (tag : Byte)
  | jobTake
  | claimPlace
  | claimWithdraw
  | claimLevelChange
  | writeJobComplete
  | commitDestination
  | groupSet (tag group : Byte) (members : List Byte)
  | groupGet (tag group : Byte)
  | keySet (tag line addr key function targetKind target : Byte) (level : Half) (cls mode : Byte)
  | keyGet (tag line addr key : Byte)
  | talkForce (tag number function src targetKind target : Byte) (level : Half) (cls : Byte)
  | talkDrop (tag selector number : Byte)
  | talkList (tag start : Byte)
  | hostCommandTake
  | keyRecordTake
  | endJobIssue
  | longTimerExpiry (key : KeyId)
  | poll (line : LineNo)
  | answer (line : LineNo) (bytes : List Byte)
  | answerWindowExpiry (line : LineNo)
  | pollSet (tag line : Byte) (marks : BitVec 16)
  | filterSet (tag line : Byte) (filter : FilterArg)
  | panelGet (tag line addr : Byte)
  | queueGet (tag line : Byte)
  | probe (tag port : Byte) (settings : Option (BitVec 24 × BitVec 24))
  | probeCancel (tag port : Byte)
  | probeGet (tag : Byte)
  | probeStart
  | windowJudgement
  | gapExpiry
  | settleExpiry
  | laneFrameReceived (lane : LaneNo) (bytes : List Byte)
  | silenceExpiry (lane : LaneNo)
  | handshakeTimeout (lane : LaneNo)
  | wakeCountExpiry (lane : LaneNo)
  | laneSet (tag lane enable preference : Byte)
  | laneGet (tag lane : Byte)
  | laneRetune (tag lane abilities : Byte)
  | laneWake (tag lane : Byte)
  | sweepExpiry
  | healthSet (tag : Byte) (interval threshold hardCount : Half) (autoGuard : Byte) (retention : Half)
  | healthGet (tag lane : Byte)
  | unitGet (tag start : Byte)
  | guardClear (tag port : Byte)
  | lengthOutOfRange (length : Byte)
  | answerBrokenOff (line : LineNo)
  deriving DecidableEq, Repr

end Sys2Proof
end

