-- ==== Sys2Proof/Machine/Types.lean ====
section
/-! DEFINITION. The records of the part's blocks, chapter by chapter. The default value of a field is
its value after a hardware reset (01 R11 to 11 R182); names are the document's. -/

namespace Sys2Proof.Machine

/-! ## Station Timing Unit (01) -/

inductive LockState | free | acquire | locked | holdover
  deriving DecidableEq, Repr

inductive ClockSource | internal | reference | held
  deriving DecidableEq, Repr

/-- The Station Timing Unit (01 section 1.1; reset values R11). -/
structure Timing where
  lock : LockState := .free
  /-- The reference selection is SELECTED. -/
  selected : Bool := false
  source : ClockSource := .internal
  /-- The held period as the sum of 64 offsets in parts per million, that is in 64ths of a part per
  million, so that the mean of R4 and R5 is exact (log entry 11). -/
  held : Option Int := none
  goodRun : Nat := 0
  badRun : Nat := 0
  holdoverEntries : Nat := 0
  stationTime : BitVec 32 := 0
  framePhase : Fin 48 := 0
  /-- Offsets of the good periods that stand in the mean, oldest first, at most 64 (R4, R5). -/
  recentGood : List Int := []
  /-- The frame boundary of the present frame is still to be taken (R9, R11; log entry 4). -/
  boundaryDue : Bool := true
  deriving DecidableEq, Repr

/-! ## Ports (02) -/

inductive PortClass | unused | panel | earpiece | feed | remote
  deriving DecidableEq, Repr

/-- A duck profile (02 section 2.1). A threshold of `none` is NONE. -/
structure DuckProfile where
  threshold : Option XpClass := none
  depth : Nat := 256
  attack : Nat := 96
  hold : Nat := 4800
  release : Nat := 480
  deriving DecidableEq, Repr

structure CancelSection where
  slot : SlotNo
  level : Nat
  returnSource : Option PortNo
  lockedDelay : Option Nat := none
  deriving DecidableEq, Repr

/-- The lane binding of a REMOTE port; the defaults are those of R16. -/
structure LaneBinding where
  primary : Option LaneNo := none
  backup : Option LaneNo := none
  expected : Option Ident := none
  lead : Option LaneNo := none
  guarded : Bool := false
  depth : Nat := 3
  buffer : BufNo
  deriving DecidableEq, Repr

/-- A port record (02 section 2.1; reset values R13). -/
structure Port where
  cls : PortClass := .unused
  trim : Nat := 1024
  master : Nat := 1024
  isolated : Bool := false
  profile : DuckProfile := {}
  pendingProfile : Option DuckProfile := none
  cancel : Option CancelSection := none
  panel : Option (LineNo × PanelAddr) := none
  binding : Option LaneBinding := none
  clipLatch : Bool := false
  clipCount : Nat := 0
  deriving DecidableEq, Repr

/-! ## Crosspoints and the Table Writer (03) -/

inductive Origin
  | fixed
  | talk (id : TalkId)
  deriving DecidableEq, Repr

structure Claim where
  origin : Origin
  level : Nat
  cls : XpClass
  deriving DecidableEq, Repr

inductive EntryState | live | parked | guarded
  deriving DecidableEq, Repr

/-- A crosspoint entry; its destination is the row of the table that holds it (03 section 3.1). -/
structure Entry where
  source : PortNo
  claims : List Claim
  level : Nat
  cls : XpClass
  state : EntryState
  deriving DecidableEq, Repr

/-- The outcome of a placement (R29, R33). -/
inductive PlaceOutcome | ok | full | self | parked | refused
  deriving DecidableEq, Repr

/-- One claim operation (03 section 3.2). -/
inductive ClaimOp
  | place (src dst : PortNo) (origin : Origin) (level : Nat) (cls : XpClass)
  | withdraw (src dst : PortNo) (origin : Origin)
  | levelChange (id : TalkId) (level : Nat) (pairs : List (PortNo × PortNo))
  deriving DecidableEq, Repr

/-- The outcome returned for one placement of a job. -/
structure PlaceResult where
  src : PortNo
  dst : PortNo
  origin : Origin
  outcome : PlaceOutcome
  deriving DecidableEq, Repr

/-- What a write job is for, and so what its completion does. -/
inductive Purpose
  | beginTalk (id : TalkId)
  | endTalk (id : TalkId)
  | levelStep (id : TalkId)
  /-- A GROUP-SET edit: the group and its old members (R43, R112). -/
  | groupEdit (group : GroupNo) (old : List PortNo)
  | xpSet (src dst : PortNo)
  | xpClear
  | sceneCommit
  deriving DecidableEq, Repr

/-- A write job: the operations still to be done and the outcomes so far (R33). -/
structure Job where
  purpose : Purpose
  ops : List ClaimOp
  results : List PlaceResult := []
  deriving DecidableEq, Repr

inductive WriterState | free | servingTalk | servingHost | committing
  deriving DecidableEq, Repr

/-- A staged entry of a scene (03 section 3.8). -/
structure Staged where
  src : PortNo
  dst : PortNo
  level : Nat
  cls : XpClass
  deriving DecidableEq, Repr

/-- The Table Writer (03 section 3.3). -/
structure Writer where
  state : WriterState := .free
  talkPos : Option Job := none
  hostPos : Option Job := none
  progress : Option (Fin 64) := none
  staging : List Staged := []
  /-- What SCENE-DONE reports (R54), counted as the commit goes. -/
  applied : Nat := 0
  skipped : Nat := 0
  lowestSkipped : Option Nat := none
  deriving DecidableEq, Repr

/-! ## Duck Units and the Cancel Store (04) -/

inductive DuckState | opened | attack | ducked | hold | release
  deriving DecidableEq, Repr

/-- A Duck Unit (04 section 4.1; reset values R56). Its pending profile is held in the port record. -/
structure Duck where
  state : DuckState := .opened
  factor : Nat := 1024
  step : Option Nat := none
  holdRemaining : Nat := 0
  trigger : Bool := false
  deriving DecidableEq, Repr

/-- A cancel slot (04 section 4.3): positions strictly rising, no sample 0; an unlisted position
reads 0. -/
structure CancelSlot where
  owner : Option PortNo := none
  history : List (Nat × Sample) := []
  deriving DecidableEq, Repr

/-! ## Alignment Probe (05) -/

inductive EngineState | idle | running | settling
  deriving DecidableEq, Repr

inductive ProbeStage | coarse | medium | fine
  deriving DecidableEq, Repr

inductive RoundPhase | marker | gap
  deriving DecidableEq, Repr

inductive ProbeResult | locked | noneSeen | unstable | aborted | clock
  deriving DecidableEq, Repr

/-- The running probe record (05 section 5.1; start values R81). -/
structure ProbeRun where
  port : PortNo
  returnSource : PortNo
  level : Nat
  threshold : Nat
  stage : ProbeStage := .coarse
  coarse : Option Nat := none
  medium : Option Nat := none
  index : Nat := 1
  candidate : Nat := 255
  phase : RoundPhase := .marker
  passes : Nat := 0
  seen : Nat := 0
  rounds : Nat := 1
  deriving DecidableEq, Repr

/-- The Alignment Probe (05 section 5.1; reset values R75). -/
structure Probe where
  engine : EngineState := .idle
  queue : List PortNo := []
  level : Nat := 1000000
  threshold : Nat := 100000
  settle : Nat := 0
  run : Option ProbeRun := none
  deriving DecidableEq, Repr

/-! ## Panel lines and Key Queues (06) -/

inductive Lamp | off | on | part | call
  deriving DecidableEq, Repr

structure PanelRec where
  present : Bool := false
  missRun : Nat := 0
  pollsSinceTally : Nat := 0
  lastTally : Option (Table 32 Lamp) := none
  /-- Bit `k` for key `k`. -/
  lastHeld : Option (BitVec 32) := none
  deriving DecidableEq, Repr

/-- The phase of a poll's transaction: its answer window is open. An answer, a tally and the end of
the transaction are one step (R95, R99). -/
inductive PollPhase | window
  deriving DecidableEq, Repr

structure PollInProgress where
  addr : PanelAddr
  phase : PollPhase := .window
  /-- The address has been removed from the poll list since the poll was sent (R96). -/
  removed : Bool := false
  deriving DecidableEq, Repr

inductive FilterMode | single | dual
  deriving DecidableEq, Repr

/-- A frame the part sends on a panel line (11 section 11.6). -/
inductive PanelFrame
  | poll (addr : PanelAddr)
  | tally (addr : PanelAddr) (lamps : Table 32 Lamp)
  deriving DecidableEq, Repr

/-- A Panel Line Controller (06 section 6.1; reset values R94). -/
structure PanelLine where
  /-- Bit `a` for address `a` (log entry 13). -/
  pollList : BitVec 16 := 0
  lastPolled : Option PanelAddr := none
  inProgress : Option PollInProgress := none
  filterMode : FilterMode := .single
  singleCode : BitVec 20 := 0
  singleMask : BitVec 20 := BitVec.allOnes 20
  codeA : BitVec 12 := 0
  maskA : BitVec 12 := BitVec.allOnes 12
  codeB : BitVec 12 := 0
  maskB : BitVec 12 := BitVec.allOnes 12
  answerErrors : Nat := 0
  panels : Table 16 PanelRec := Table.replicate 16 {}
  /-- The last frame sent on the line: the connection's output (log entry 33). -/
  frameOut : Option PanelFrame := none
  deriving DecidableEq, Repr

inductive KeyAction
  | press
  | release
  | level (step : Byte)
  deriving DecidableEq, Repr

/-- A key record; its line is the queue's (06 section 6.6). -/
structure KeyRecord where
  addr : PanelAddr
  key : KeyNo
  action : KeyAction
  arrival : BitVec 16
  deriving DecidableEq, Repr

/-- A Key Queue (06 section 6.1; reset values R94). -/
structure KeyQueue where
  records : List KeyRecord := []
  bytesUsed : Nat := 0
  count : Nat := 0
  overrun : Bool := false
  /-- The Talk Arbiter has taken the head (R105). -/
  headInService : Bool := false
  deriving DecidableEq, Repr

/-! ## Talk Arbiter (07) -/

inductive KeyFunction | noFunction | talk | listen | call
  deriving DecidableEq, Repr

inductive Target
  | port (p : PortNo)
  | group (g : GroupNo)
  deriving DecidableEq, Repr

inductive KeyMode | momentary | latching | auto
  deriving DecidableEq, Repr

/-- A key table entry (07 section 7.1). -/
structure KeyEntry where
  function : KeyFunction := .noFunction
  target : Option Target := none
  level : Nat := 1024
  cls : XpClass := 0
  mode : KeyMode := .momentary
  deriving DecidableEq, Repr

inductive KeyState | idle | held | latched | clearing
  deriving DecidableEq, Repr

/-- All the arbiter keeps of one key: its table entry, state, press stamp, long mark and long timer
(07 section 7.3). The timer is the station time at which the press was taken (R116). -/
structure KeyCell where
  entry : KeyEntry := {}
  state : KeyState := .idle
  pressStamp : Option (BitVec 16) := none
  longMark : Bool := false
  timer : Option (BitVec 32) := none
  deriving DecidableEq, Repr

inductive Maker
  | key (k : KeyId)
  | host (n : HostTalkNo)
  deriving DecidableEq, Repr

inductive TalkPhase | beginning | active | ending
  deriving DecidableEq, Repr

inductive EndReason | key | echo | panelAbsent | pollRemoved | host
  deriving DecidableEq, Repr

/-- A notice of the Table Writer kept until the outcome it changes is recorded (R119). -/
structure HeldNotice where
  target : PortNo
  live : Bool
  deriving DecidableEq, Repr

/-- A talk record (07 section 7.3). -/
structure Talk where
  id : TalkId
  maker : Maker
  phase : TalkPhase := .beginning
  endRequested : Option EndReason := none
  function : KeyFunction
  talkingPort : PortNo
  target : Target
  /-- The target ports, in target order (R118). -/
  targets : List PortNo
  level : Nat
  cls : XpClass
  startTime : BitVec 32
  /-- One outcome for each target port, in target order; absent while BEGINNING. -/
  outcomes : Option (List PlaceOutcome) := none
  pairs : List (PortNo × PortNo) := []
  heldNotices : List HeldNotice := []
  /-- The reason an ENDING talk reports (R122). -/
  endReason : Option EndReason := none
  deriving DecidableEq, Repr

/-- A host command the Talk Arbiter serves, its arguments checked for BAD-ARG (R113). -/
inductive HostWork
  | talkForce (number : HostTalkNo) (function : KeyFunction) (source : PortNo) (target : Target)
      (level : Nat) (cls : XpClass)
  | dropHostTalk (number : HostTalkNo)
  | dropTalk (id : TalkId)
  | groupSet (group : GroupNo) (members : List PortNo)
  deriving DecidableEq, Repr

/-- The arbiter's work in service (07 section 7.3). -/
inductive Work
  | record (line : LineNo) (r : KeyRecord)
  | host (w : HostWork)
  deriving DecidableEq, Repr

/-- The Talk Arbiter (07 sections 7.1 to 7.3; reset values R113). -/
structure Arbiter where
  keys : Table 2 (Table 16 (Table 32 KeyCell)) :=
    Table.replicate 2 (Table.replicate 16 (Table.replicate 32 {}))
  groups : Table 64 (List PortNo) := Table.replicate 64 []
  /-- The active talk list, in start order. -/
  talks : List Talk := []
  pendingEnds : List TalkId := []
  work : Option Work := none
  jobInFlight : Option Purpose := none
  hostWaiting : Option HostWork := none
  lastLine : Option LineNo := none
  deriving DecidableEq, Repr

/-! ## Lanes (08, 09) -/

inductive LaneState | off | seek | offer | pages | live | dozeHold | doze | waking | barred
  deriving DecidableEq, Repr

inductive RolePref | lead | either | follow
  deriving DecidableEq, Repr

inductive Role | lead | follow
  deriving DecidableEq, Repr

inductive Profile | tight | robust
  deriving DecidableEq, Repr

/-- A set of abilities. -/
structure Abilities where
  tight : Bool := true
  robust : Bool := true
  deriving DecidableEq, Repr

/-- What an OFFER word says, apart from ACK. -/
structure Offer where
  abilities : Abilities
  pref : RolePref
  seed : Byte
  deriving DecidableEq, Repr

inductive PageCode | id0 | id1 | id2 | id3 | endPage
  deriving DecidableEq, Repr

/-- A lane frame as sent; its check is computed by the wire form (11 section 11.6). The audio is no
block, the new block, or the new block and the repeat. -/
structure LaneFrame where
  seq : Byte
  word : BitVec 16
  audio : List Block
  deriving DecidableEq, Repr

/-- A Lane Controller: handshake record, lane record, transmit and receive sides (08 sections 8.2
and 8.3, 09 section 9.1; reset values R148). -/
structure Lane where
  state : LaneState := .off
  enable : Bool := false
  boundPort : Option PortNo := none
  pref : RolePref := .either
  /-- The preference the present offer round began with (R150). -/
  roundPref : RolePref := .either
  abilities : Abilities := {}
  role : Option Role := none
  profile : Option Profile := none
  ownSeed : Byte := 0
  ownAck : Bool := false
  matchedOffer : Option Offer := none
  matchCount : Nat := 0
  tiedOffer : Option Offer := none
  attempts : Nat := 0
  progress : Nat := 0
  pageSent : PageCode := .id0
  ownToggle : Bool := false
  lastToggle : Bool := true
  pagesAccepted : Option PageCode := none
  identitySent : Ident := 0
  /-- The 10-bit parts of the remote identity accepted so far, most significant first. -/
  remoteParts : List (BitVec 10) := []
  /-- The remote has acknowledged the lane's ID3 (R143). -/
  id3Acked : Bool := false
  unitHeld : Option Ident := none
  consecutiveErrors : Nat := 0
  barredCount : Nat := 0
  dozeRun : Nat := 0
  keepAliveCallRun : Nat := 0
  wakeCount : Nat := 0
  /-- Frame boundaries since entry to DOZE or since the last keep-alive (R131). -/
  dozeBoundaries : Nat := 0
  remoteCall : Bool := false
  lostLatch : Bool := false
  wakeLatch : Bool := false
  roleFaultLatch : Bool := false
  liveHeld : Bool := false
  onAir : Bool := false
  talkClaim : Bool := false
  localCall : Bool := false
  frameErrors : Nat := 0
  missingFrames : Nat := 0
  lateBlocks : Nat := 0
  slips : Nat := 0
  pathSwitches : Nat := 0
  txSeq : Byte := 0
  /-- The new block of the last frame sent, and of the one before it, where they carried one. -/
  sentBlock1 : Option Block := none
  sentBlock2 : Option Block := none
  lastSeq : Option Byte := none
  silentCount : Nat := 0
  silenceTimer : Option Nat := none
  /-- The last frame sent: the connection's output (log entry 33). -/
  frameOut : Option LaneFrame := none
  deriving DecidableEq, Repr

/-- A Path Buffer's slot: one block sequence with its copies, each tagged with its lane. -/
structure PathSlot where
  seq : Byte
  copies : List (LaneNo × Block)
  deriving DecidableEq, Repr

/-- A block of 48 zero samples. -/
def zeroBlock : Block := List.replicate 48 0

/-- A Path Buffer (09 section 9.5). `presented` is the block handed to the conditioned input stage
for the present frame (R23). -/
structure PathBuf where
  owner : Option PortNo := none
  running : Bool := false
  position : Option Byte := none
  startSeq : Option Byte := none
  slots : Table 8 (Option PathSlot) := Table.replicate 8 none
  lastGood : Block := zeroBlock
  lastLane : Option LaneNo := none
  concealRun : Nat := 0
  dropoutReported : Bool := false
  presented : Block := zeroBlock
  deriving DecidableEq, Repr

/-! ## Contribution health (10) -/

inductive LaneClass | good | soft | hard
  deriving DecidableEq, Repr

structure SweepRecord where
  errors : Nat
  syndromeAnd : BitVec 16
  syndromeOr : BitVec 16
  deriving DecidableEq, Repr

/-- A lane's health record (10 section 10.1). -/
structure HealthRec where
  errors : Nat := 0
  syndromeAnd : BitVec 16 := BitVec.allOnes 16
  syndromeOr : BitVec 16 := 0
  syndromesSeen : Bool := false
  framesAccepted : Bool := false
  cls : LaneClass := .good
  badRun : Nat := 0
  cleanRun : Nat := 0
  lastSweep : Option SweepRecord := none
  deriving DecidableEq, Repr

structure HealthSettings where
  interval : Nat := 10
  threshold : Nat := 10
  hardCount : Nat := 4
  autoGuard : Bool := false
  retention : Nat := 360
  deriving DecidableEq, Repr

/-- The Health Monitor (10 section 10.1; reset values R165). -/
structure Health where
  lanes : Table 24 HealthRec := Table.replicate 24 {}
  settings : HealthSettings := {}
  sweepStart : BitVec 32 := 0
  deriving DecidableEq, Repr

/-- An entry of the Unit History Table; the defaults are those on creation (10 section 10.5). -/
structure UnitEntry where
  identity : Ident
  connected : Bool := true
  caution : Bool := false
  badSweeps : Nat := 0
  goodRun : Nat := 0
  lastClass : LaneClass := .good
  retentionLeft : Option Nat := none
  deriving DecidableEq, Repr

/-! ## Control line (11) -/

inductive ResultCode
  | ok | clamped | busy | badArg | noRoom | inUse | notQuiet | wrongClass | duplicate
  | unknownKind | badLength
  deriving DecidableEq, Repr

/-- A good control frame: kind, tag and body (11 section 11.1). -/
structure ControlFrame where
  kind : Byte
  tag : Byte
  body : List Byte
  deriving DecidableEq, Repr

/-- What TALK-LIST says of one talk (R129). -/
structure TalkReading where
  id : TalkId
  maker : Maker
  phase : TalkPhase
  function : KeyFunction
  talkingPort : PortNo
  target : Target
  level : Nat
  cls : XpClass
  startTime : BitVec 32
  outcomes : Option (List PlaceOutcome)
  deriving DecidableEq, Repr

/-- What CLOCK-GET says (R10). The held period is in 64ths of a part per million (log entry 11). -/
structure ClockReading where
  lock : LockState
  selected : Bool
  source : ClockSource
  held : Option Int
  goodRun : Nat
  badRun : Nat
  holdoverEntries : Nat
  stationTime : BitVec 32
  deriving DecidableEq, Repr

/-- What PANEL-GET says of the filter of the line's mode (R108). -/
inductive FilterReading
  | single (code mask : BitVec 20)
  | dual (codeA maskA codeB maskB : BitVec 12)
  deriving DecidableEq, Repr

/-- What PANEL-GET says (R108). -/
structure PanelReading where
  pollList : BitVec 16
  filter : FilterReading
  answerErrors : Nat
  listed : Bool
  panel : PanelRec
  deriving DecidableEq, Repr

/-- What PROBE-GET says of a running probe (R92). -/
structure ProbeRunReading where
  port : PortNo
  returnSource : PortNo
  level : Nat
  threshold : Nat
  stage : ProbeStage
  coarse : Option Nat
  medium : Option Nat
  candidate : Nat
  phase : RoundPhase
  passes : Nat
  seen : Nat
  rounds : Nat
  deriving DecidableEq, Repr

/-- What PROBE-GET says (R92): the running probe while RUNNING, the settle remaining while
SETTLING. -/
structure ProbeReading where
  level : Nat
  threshold : Nat
  engine : EngineState
  run : Option ProbeRunReading
  settle : Option Nat
  queue : List PortNo
  deriving DecidableEq, Repr

/-- What LANE-GET says (R160). -/
structure LaneReading where
  state : LaneState
  boundPort : Option PortNo
  enable : Bool
  pref : RolePref
  abilities : Abilities
  role : Option Role
  profile : Option Profile
  unitHeld : Option Ident
  consecutiveErrors : Nat
  barredCount : Nat
  lost : Bool
  wake : Bool
  roleFault : Bool
  liveHeld : Bool
  frameErrors : Nat
  missingFrames : Nat
  lateBlocks : Nat
  slips : Nat
  pathSwitches : Nat
  deriving DecidableEq, Repr

/-- What HEALTH-GET says (R176). -/
structure HealthReading where
  settings : HealthSettings
  elapsed : BitVec 32
  lane : HealthRec
  deriving DecidableEq, Repr

/-- The fields of an OK or CLAMPED reply beyond the result code (R178). -/
inductive ReplyFields
  | empty
  | identity (partCode ports lanes : Nat) (station : Ident)
  | lineState (lineErrors dropped reports frames : Nat)
  | clock (r : ClockReading)
  | port (r : Port)
  | entryState (st : EntryState)
  | entries (count : Nat) (page : List Entry)
  | members (list : List PortNo)
  | key (entry : KeyEntry) (state : KeyState) (talk : Option (TalkId × TalkPhase)) (lamp : Lamp)
  | outcomes (list : List PlaceOutcome)
  | talks (count : Nat) (page : List TalkReading)
  | panel (r : PanelReading)
  | queue (count bytesUsed : Nat) (overrun headInService : Bool)
  | probe (r : ProbeReading)
  | lane (r : LaneReading)
  | health (r : HealthReading)
  | units (count : Nat) (page : List UnitEntry)
  deriving DecidableEq, Repr

/-- A reply: the command's tag and kind as received, the result code, and the fields (R178). -/
structure Reply where
  tag : Byte
  kind : Byte
  code : ResultCode
  fields : ReplyFields := .empty
  deriving DecidableEq, Repr

inductive ReadyCause | power | restart
  deriving DecidableEq, Repr

inductive LaneCause
  | handshake | lost | doze | remote | woken | errors | roleFault | mismatch
  deriving DecidableEq, Repr

inductive TalkRefusal | noPort | emptyGroup | listFull
  deriving DecidableEq, Repr

inductive ForgetCause | evicted | expired
  deriving DecidableEq, Repr

/-- The reports and their fields (11 section 11.6, Report kinds). -/
inductive Report
  | ready (cause : ReadyCause) (time : BitVec 32)
  | clockState (previous new : LockState) (time : BitVec 32)
  | clip (port : PortNo) (time : BitVec 32)
  | sceneDone (applied skipped : Nat) (lowestSkipped : Option Nat)
  | probeResult (port : PortNo) (result : ProbeResult) (delay : Option Nat)
      (stage : Option (ProbeStage × Nat)) (rounds : Nat) (time : BitVec 32)
  | panelPresence (line : LineNo) (addr : PanelAddr) (present : Bool)
  | keyOverrun (line : LineNo) (arrival : BitVec 16)
  | talkBegin (id : TalkId) (maker : Maker) (function : KeyFunction) (target : Target)
      (outcomes : List PlaceOutcome)
  | talkEnd (id : TalkId) (maker : Maker) (reason : EndReason)
  | talkRefused (key : KeyId) (reason : TalkRefusal)
  | remoteCall (port : PortNo) (lane : LaneNo)
  | laneState (lane : LaneNo) (port : Option PortNo) (left new : LaneState) (cause : LaneCause)
  | wakeUnanswered (lane : LaneNo) (port : Option PortNo)
  | profileForced (lane : LaneNo) (port : PortNo) (identity : Ident)
  | portDropout (port : PortNo) (time : BitVec 32)
  | laneClass (lane : LaneNo) (port : PortNo) (previous new : LaneClass) (sweep : SweepRecord)
  | pathSwap (port : PortNo) (oldLead newLead : LaneNo)
  | guardSet (port : PortNo)
  | unitForgotten (identity : Ident) (cause : ForgetCause)
  deriving DecidableEq, Repr

/-- A report in the queue with its dropped field (R181). -/
structure QueuedReport where
  report : Report
  dropped : Nat
  deriving DecidableEq, Repr

/-- The Report Queue (R181). -/
structure ReportQueue where
  queue : List QueuedReport := []
  dropped : Nat := 0
  deriving DecidableEq, Repr

inductive RxPhase | hunt | length | collect
  deriving DecidableEq, Repr

/-- The command in service (R178): its tag and kind, and whether a quantity was clamped. -/
structure Service where
  tag : Byte
  kind : Byte
  clamped : Bool := false
  deriving DecidableEq, Repr

/-- The RESTART sequence (R183): none, the reply is formed and not yet sent, the reply has been sent
and the restart is to take effect. -/
inductive RestartPhase | none | replying | effectDue
  deriving DecidableEq, Repr

/-- The frame the transmitter is sending (R180). -/
inductive TxFrame
  | reply (r : Reply)
  | report (q : QueuedReport)
  deriving DecidableEq, Repr

/-- The Control Line Controller (11 sections 11.1 to 11.4). -/
structure Control where
  rxPhase : RxPhase := .hunt
  /-- The bytes of the frame in progress after its start byte: length, kind, tag, body. -/
  rxBytes : List Byte := []
  fifo : List ControlFrame := []
  lineErrors : Nat := 0
  service : Option Service := none
  restart : RestartPhase := .none
  replies : List Reply := []
  tx : Option TxFrame := none
  deriving DecidableEq, Repr

/-- The Mix Engine's outputs: each port's present output sample, the outputs of the passes of the
frame in progress (newest first), and those of the last complete frame (oldest first). -/
structure MixOut where
  outputs : Table 64 Sample := Table.replicate 64 0
  framePasses : List (Table 64 Sample) := []
  lastFrame : List (Table 64 Sample) := []
  deriving DecidableEq, Repr

end Sys2Proof.Machine
end

