-- ==== Sys2Proof/Machine/State.lean ====
section
/-! DEFINITION. The state of the part: every block's state as plain data, and the queue of commands
waiting. -/

namespace Sys2Proof.Machine

/-- The reasons a step can stop the machine: none. No rule of the document halts the part or gives it
a trap; errors are counted, reported or answered by result codes. -/
inductive Fault
  deriving DecidableEq, Repr

/-- The reasons a command has no meaning. -/
inductive Refusal
  /-- Raised by `exec` alone, in the arm of a row that has no meaning yet. Safe: nothing is claimed of
  such a row. No arm raises it. -/
  | notModelled (mnemonic : String)
  deriving DecidableEq, Repr

/-- Everything the document gives the part, block by block (00 section 3), and the model's own
`freeCount` and `pending`. -/
structure State where
  /-- The reset line is held low (R11, R182). -/
  resetHeld : Bool := false
  timing : Timing := {}
  ports : Table 64 Port := Table.replicate 64 {}
  /-- The Crosspoint Table: for each destination its entries in creation order (R28). -/
  xp : Table 64 (List Entry) := Table.replicate 64 []
  writer : Writer := {}
  mix : MixOut := {}
  ducks : Table 64 Duck := Table.replicate 64 {}
  cancel : Table 24 CancelSlot := Table.replicate 24 {}
  probe : Probe := {}
  lines : Table 2 PanelLine := Table.replicate 2 {}
  keyQueues : Table 2 KeyQueue := Table.replicate 2 {}
  arbiter : Arbiter := {}
  /-- The station identity, one for the part (08 section 8.3, R136). -/
  stationId : Ident := 0
  lanes : Table 24 Lane := Table.replicate 24 {}
  buffers : Table 16 PathBuf := Table.replicate 16 {}
  health : Health := {}
  /-- The Unit History Table in creation order (R172). -/
  units : List UnitEntry := []
  control : Control := {}
  reports : ReportQueue := {}
  /-- How many free values have been used (log entry 24). -/
  freeCount : Nat := 0
  /-- The commands waiting, first in, first out. -/
  pending : List Instr := []
  deriving DecidableEq, Repr

/-- The part right after the reset line is released (R11, R182): every block at its hardware reset
values, and READY with cause POWER and station time 0, which the idle transmitter begins at once
(R180). -/
def State.reset : State :=
  { control := { tx := some (.report ⟨.ready .power 0, 0⟩) } }

end Sys2Proof.Machine
end

