-- ==== Sys2Proof/Machine/Operands.lean ====
section
/-! DEFINITION. How a command's fields are read: numbers of objects, codes of enumerations (11
section 11.6), clamped quantities (R179), and the exact integer arithmetic of 00 section 6.2. -/

namespace Sys2Proof.Machine

/-! ## Structural arguments (R179) -/

/-- A one-byte object number below `n`; any other value is out of range. -/
def number? (n : Nat) (b : Byte) : Option (Fin n) :=
  if h : b.toNat < n then some ⟨b.toNat, h⟩ else none

/-- The byte that means NONE (R179). -/
def noneCode : Byte := 0xFF#8

/-- A one-byte object number below `n`, or NONE: `none` is out of range, `some none` is NONE. -/
def numberOrNone? (n : Nat) (b : Byte) : Option (Option (Fin n)) :=
  if b = noneCode then some none else (number? n b).map some

/-- Codes are numbered from 0 in the order of the table of 11 section 11.6; any other byte is
unknown. -/
def code? {α : Type} (values : List α) (b : Byte) : Option α := values[b.toNat]?

def portClasses : List PortClass := [.unused, .panel, .earpiece, .feed, .remote]

def keyFunctions : List KeyFunction := [.noFunction, .talk, .listen, .call]

def keyModes : List KeyMode := [.momentary, .latching, .auto]

def rolePrefs : List RolePref := [.lead, .either, .follow]

def portClass? : Byte → Option PortClass := code? portClasses

def onOff? : Byte → Option Bool := code? [false, true]

def keyFunction? : Byte → Option KeyFunction := code? keyFunctions

def keyMode? : Byte → Option KeyMode := code? keyModes

def rolePref? : Byte → Option RolePref := code? rolePrefs

/-- A target kind and number: PORT or GROUP 0..63. -/
def target? (kind number : Byte) : Option Target :=
  match code? [true, false] kind, number? 64 number with
  | some true, some p => some (.port p)
  | some false, some g => some (.group g)
  | _, _ => none

/-- A duck threshold: 1, 2, 3 or NONE; 0 is unknown. -/
def threshold? (b : Byte) : Option (Option XpClass) :=
  if b = noneCode then some none
  else if b = 0 then none
  else (number? 4 b).map some

/-- A LANE-RETUNE ability set: TIGHT in bit 0, ROBUST in bit 1; the empty set and any other bit are
refused (R158). -/
def abilities? (b : Byte) : Option Abilities :=
  if b.toNat = 0 ∨ 4 ≤ b.toNat then none
  else some { tight := b.getLsbD 0, robust := b.getLsbD 1 }

/-- The panel binding PORT-SET PANEL carries: both fields NONE, or a line and an address. Half a NONE
is refused. DESIGN CHOICE, log entry 14. -/
def panelBinding? (line addr : Byte) : Option (Option (LineNo × PanelAddr)) :=
  if line = noneCode ∧ addr = noneCode then some none
  else
    match number? 2 line, number? 16 addr with
    | some l, some a => some (some (l, a))
    | _, _ => none

/-! ## Numeric quantities (R179) -/

/-- `v` replaced by the nearer end of `lo..hi`. -/
def clampTo (lo hi v : Nat) : Nat := max lo (min hi v)

/-- `v` lies in `lo..hi`, so that clamping changes nothing. -/
def inRange (lo hi v : Nat) : Bool := decide (lo ≤ v) && decide (v ≤ hi)

/-- OK, or CLAMPED if a quantity was clamped (R14, R179). -/
def okOr (clamped : Bool) : ResultCode := if clamped then .clamped else .ok

/-! ## Arithmetic (00 section 6.2) -/

/-- `v` divided by 2 raised to `n` and rounded half upward: add 2 raised to `n - 1`, divide, and take
the largest integer not greater than the quotient. -/
def roundShift (n : Nat) (v : Int) : Int := (v + 2 ^ (n - 1)) / 2 ^ n

def sampleMin : Int := -8388608
def sampleMax : Int := 8388607

/-- Saturation into the sample range. -/
def saturate (v : Int) : Sample := max sampleMin (min sampleMax v)

/-- `a` divided by `b` and rounded up to a whole number (R59, R62). -/
def ceilDiv (a b : Nat) : Nat := (a + b - 1) / b

/-- A count that stops at `top`. -/
def addSat (top a b : Nat) : Nat := min top (a + b)

end Sys2Proof.Machine
end

