-- ==== Sys2Proof/Machine/Wire.lean ====
section
/-! DEFINITION. The wire layouts of 11 section 11.6: the three checks, lane frames and panel frames
in bytes. -/

namespace Sys2Proof.Machine

/-! ## Checks -/

/-- One bit of a CRC of width `w` with polynomial `poly` (its leading term left out), most significant
bit first, nothing reflected. -/
def crcBit {w : Nat} (poly : BitVec w) (crc : BitVec w) (bit : Bool) : BitVec w :=
  let shifted := crc <<< 1
  if crc.msb != bit then shifted ^^^ poly else shifted

/-- The bits of a byte, most significant first. -/
def byteBits (b : Byte) : List Bool :=
  [b.getLsbD 7, b.getLsbD 6, b.getLsbD 5, b.getLsbD 4, b.getLsbD 3, b.getLsbD 2, b.getLsbD 1,
   b.getLsbD 0]

/-- A CRC over bytes, from `init`. -/
def crcBytes {w : Nat} (poly init : BitVec w) (bytes : List Byte) : BitVec w :=
  bytes.foldl (fun crc b => (byteBits b).foldl (crcBit poly) crc) init

/-- The control frame check: polynomial x^8+x^2+x+1, initial value 0 (R177). -/
def controlCheck (bytes : List Byte) : BitVec 8 := crcBytes 0x07#8 0#8 bytes

/-- The panel line frame check: polynomial x^16+x^12+x^5+1, initial value FFFFh. -/
def panelCheck (bytes : List Byte) : BitVec 16 := crcBytes 0x1021#16 0xFFFF#16 bytes

/-- The lane frame check: polynomial x^16+x^15+x^2+1, initial value 0. -/
def laneCheck (bytes : List Byte) : BitVec 16 := crcBytes 0x8005#16 0#16 bytes

/-! ## Multi-byte fields, most significant byte first -/

/-- The number a byte list spells, most significant byte first. -/
def bytesToNat (bytes : List Byte) : Nat := bytes.foldl (fun n b => n * 256 + b.toNat) 0

/-- A field of `w` bits from its bytes; bits above the width are not read. -/
def field (w : Nat) (bytes : List Byte) : BitVec w := BitVec.ofNat w (bytesToNat bytes)

/-- A field in `n` bytes, most significant first. -/
def fieldBytes {w : Nat} (n : Nat) (v : BitVec w) : List Byte :=
  (List.range n).map fun i => BitVec.ofNat 8 (v.toNat / 256 ^ (n - 1 - i))

/-! ## Lane frames -/

/-- The control word of a lane frame (11 section 11.6). -/
inductive LaneWord
  /-- A PAGE word: the page code's three bits, toggle, echo, payload. -/
  | page (code : BitVec 3) (toggle echo : Bool) (payload : BitVec 10)
  | offer (o : Offer) (ack : Bool)
  | run (call dozeReq wake onAir : Bool)
  /-- An OFFER word with role preference 11: a kind no lane state uses. -/
  | unused
  deriving DecidableEq, Repr

/-- The control word a 16-bit value spells. -/
def parseWord (v : BitVec 16) : LaneWord :=
  if v.getLsbD 15 = false then
    .page (v.extractLsb' 12 3) (v.getLsbD 11) (v.getLsbD 10) (v.extractLsb' 0 10)
  else if v.getLsbD 14 then
    .run (v.getLsbD 13) (v.getLsbD 12) (v.getLsbD 11) (v.getLsbD 10)
  else
    match code? [RolePref.lead, .either, .follow] ((v.extractLsb' 10 2).setWidth 8) with
    | some pref =>
      .offer ⟨{ tight := v.getLsbD 12, robust := v.getLsbD 13 }, pref, v.extractLsb' 0 8⟩
        (v.getLsbD 9)
    | none => .unused

/-- The page a page code names; 101, 110 and 111 are unknown. -/
def pageCode? (code : BitVec 3) : Option PageCode :=
  code? [.id0, .id1, .id2, .id3, .endPage] (code.setWidth 8)

def boolBit (b : Bool) : BitVec 1 := if b then 1 else 0

def pageCodeBits : PageCode → BitVec 3
  | .id0 => 0
  | .id1 => 1
  | .id2 => 2
  | .id3 => 3
  | .endPage => 4

def rolePrefBits : RolePref → BitVec 2
  | .lead => 0
  | .either => 1
  | .follow => 2

/-- The payload of END: 1 for TIGHT, 2 for ROBUST. -/
def profilePayload : Profile → BitVec 10
  | .tight => 1
  | .robust => 2

/-- The PAGE word the part sends. -/
def pageWord (code : PageCode) (toggle echo : Bool) (payload : BitVec 10) : BitVec 16 :=
  (0#1 ++ pageCodeBits code ++ boolBit toggle ++ boolBit echo ++ payload : BitVec 16)

/-- The OFFER word the part sends; bit 8 is sent 0. -/
def offerWord (o : Offer) (ack : Bool) : BitVec 16 :=
  (2#2 ++ boolBit o.abilities.robust ++ boolBit o.abilities.tight ++ rolePrefBits o.pref ++
    boolBit ack ++ 0#1 ++ o.seed : BitVec 16)

/-- The RUN word the part sends; bits 9 to 0 are sent 0. -/
def runWord (call dozeReq wake onAir : Bool) : BitVec 16 :=
  (3#2 ++ boolBit call ++ boolBit dozeReq ++ boolBit wake ++ boolBit onAir ++ 0#10 : BitVec 16)

/-- A sample as three bytes in two's complement, and back. -/
def sampleBytes (v : Sample) : List Byte := fieldBytes 3 (BitVec.ofInt 24 v)

def sampleOf (bytes : List Byte) : Sample := (field 24 bytes).toInt

/-- The first `n` samples of a byte list, sample 0 first. -/
def samplesOf : Nat → List Byte → List Sample
  | 0, _ => []
  | n + 1, bytes => sampleOf (bytes.take 3) :: samplesOf n (bytes.drop 3)

/-- The audio content of a lane frame by its length. -/
inductive LaneAudio
  | short
  | one (new : Block)
  | two (new repeated : Block)
  deriving DecidableEq, Repr

/-- A lane frame as received (R132): it fails its check, with the received check and the one computed
over the frame as received (`none` if it is too short to hold a check), or it is good. -/
inductive LaneReceipt
  | failed (syndrome : Option (BitVec 16))
  | good (seq : Byte) (word : LaneWord) (audio : LaneAudio)
  deriving DecidableEq, Repr

/-- A frame of 5, 149 or 293 bytes whose check matches is good; any other fails (R132). -/
def receiveLaneFrame (bytes : List Byte) : LaneReceipt :=
  let body := bytes.take (bytes.length - 2)
  let syndrome := field 16 (bytes.drop (bytes.length - 2)) ^^^ laneCheck body
  if bytes.length < 2 then .failed none
  else if syndrome ≠ 0 then .failed (some syndrome)
  else
    let seq := bytes.headD 0
    let word := parseWord (field 16 ((bytes.drop 1).take 2))
    let audio := bytes.drop 3
    match bytes.length with
    | 5 => .good seq word .short
    | 149 => .good seq word (.one (samplesOf 48 audio))
    | 293 => .good seq word (.two (samplesOf 48 audio) (samplesOf 48 (audio.drop 144)))
    | _ => .failed (some 0)

/-- The bytes of a lane frame the part sends. -/
def LaneFrame.wire (f : LaneFrame) : List Byte :=
  let body := f.seq :: fieldBytes 2 f.word ++ f.audio.flatMap (·.flatMap sampleBytes)
  body ++ fieldBytes 2 (laneCheck body)

/-! ## Panel line frames -/

/-- One key frame of an answer (06 section 6.3). -/
structure KeyFrame where
  key : KeyNo
  action : KeyAction
  layer : Bool
  deriving DecidableEq, Repr

/-- A panel's answer that passes its checks (R97). -/
structure Answer where
  addr : Byte
  held : BitVec 32
  frames : List KeyFrame
  deriving DecidableEq, Repr

/-- `n` key frames that fill a byte list exactly; `none` if the length does not match or an action
code is none of the three. -/
def keyFramesOf : Nat → List Byte → Option (List KeyFrame)
  | 0, [] => some []
  | 0, _ => none
  | _ + 1, [] => none
  | n + 1, b :: rest =>
    let key : KeyNo := (b.extractLsb' 3 5).toFin
    let layer := b.getLsbD 0
    match (b.extractLsb' 1 2).toNat with
    | 1 => (keyFramesOf n rest).map (⟨key, .press, layer⟩ :: ·)
    | 2 => (keyFramesOf n rest).map (⟨key, .release, layer⟩ :: ·)
    | 3 =>
      match rest with
      | step :: rest' => (keyFramesOf n rest').map (⟨key, .level step, layer⟩ :: ·)
      | [] => none
    | _ => none

/-- The answer a byte list spells, or `none` if it is erroneous whatever address was polled: its
check, its type, its key frame count, its length or an action code is wrong (R97). -/
def parseAnswer (bytes : List Byte) : Option Answer :=
  let body := bytes.take (bytes.length - 2)
  let check := field 16 (bytes.drop (bytes.length - 2))
  if bytes.length < 2 ∨ check ≠ panelCheck body then none
  else
    match body with
    | 0x02#8 :: addr :: h3 :: h2 :: h1 :: h0 :: count :: frames =>
      if 4 < count.toNat then none
      else (keyFramesOf count.toNat frames).map (⟨addr, field 32 [h3, h2, h1, h0], ·⟩)
    | _ => none

def lampBits : Lamp → BitVec 2
  | .off => 0
  | .on => 1
  | .part => 2
  | .call => 3

/-- Eight lamp bytes: two bits per key, key 0 in the top two bits of the first byte. -/
def lampBytes (lamps : Table 32 Lamp) : List Byte :=
  (List.finRange 8).map fun i =>
    let lamp (k : Nat) : BitVec 2 := lampBits (lamps.cells.getD (i.val * 4 + k) .off)
    (lamp 0 ++ lamp 1 ++ lamp 2 ++ lamp 3 : BitVec 8)

/-- The bytes of a panel line frame the part sends. -/
def PanelFrame.wire (f : PanelFrame) : List Byte :=
  let body : List Byte :=
    match f with
    | .poll addr => [0x01#8, BitVec.ofNat 8 addr.val]
    | .tally addr lamps => [0x03#8, BitVec.ofNat 8 addr.val] ++ lampBytes lamps
  body ++ fieldBytes 2 (panelCheck body)

/-! ## Control frames -/

/-- The bytes of a control frame: start, length, kind, tag, body and CRC-8 (R177). -/
def ControlFrame.wire (f : ControlFrame) : List Byte :=
  let counted := BitVec.ofNat 8 (f.body.length + 2) :: f.kind :: f.tag :: f.body
  0xC5#8 :: counted ++ [controlCheck counted]

end Sys2Proof.Machine
end

