-- ==== Sys2Proof/Machine/Ops.lean ====
section
/-! DEFINITION. The named operations over the state: reading and changing one record, the Report
Queue, the transmitter, replies, the guards of a command, and free values. -/

namespace Sys2Proof.Machine

/-- A report offered to the Report Queue: appended with the dropped count, which returns to 0, or
discarded and counted if the queue holds 64 (R181). -/
def ReportQueue.offer (q : ReportQueue) (r : Report) : ReportQueue :=
  if q.queue.length < 64 then { queue := q.queue ++ [⟨r, q.dropped⟩], dropped := 0 }
  else { q with dropped := addSat 255 q.dropped 1 }

namespace State

/-! ## One record of a table -/

def port (s : State) (p : PortNo) : Port := s.ports.get p

def modPort (s : State) (p : PortNo) (f : Port → Port) : State :=
  { s with ports := s.ports.set p (f (s.port p)) }

/-- The entries into a destination, in creation order. -/
def into (s : State) (d : PortNo) : List Entry := s.xp.get d

def setInto (s : State) (d : PortNo) (es : List Entry) : State :=
  { s with xp := s.xp.set d es }

def duck (s : State) (p : PortNo) : Duck := s.ducks.get p

def slot (s : State) (k : SlotNo) : CancelSlot := s.cancel.get k

def modSlot (s : State) (k : SlotNo) (f : CancelSlot → CancelSlot) : State :=
  { s with cancel := s.cancel.set k (f (s.slot k)) }

def line (s : State) (l : LineNo) : PanelLine := s.lines.get l

def modLine (s : State) (l : LineNo) (f : PanelLine → PanelLine) : State :=
  { s with lines := s.lines.set l (f (s.line l)) }

def panel (s : State) (l : LineNo) (a : PanelAddr) : PanelRec := (s.line l).panels.get a

def modPanel (s : State) (l : LineNo) (a : PanelAddr) (f : PanelRec → PanelRec) : State :=
  s.modLine l fun pl => { pl with panels := pl.panels.set a (f (pl.panels.get a)) }

def keyQueue (s : State) (l : LineNo) : KeyQueue := s.keyQueues.get l

def modKeyQueue (s : State) (l : LineNo) (f : KeyQueue → KeyQueue) : State :=
  { s with keyQueues := s.keyQueues.set l (f (s.keyQueue l)) }

def modArbiter (s : State) (f : Arbiter → Arbiter) : State :=
  { s with arbiter := f s.arbiter }

def key (s : State) (k : KeyId) : KeyCell := ((s.arbiter.keys.get k.line).get k.addr).get k.key

def modKey (s : State) (k : KeyId) (f : KeyCell → KeyCell) : State :=
  s.modArbiter fun a =>
    let line := a.keys.get k.line
    let panel := line.get k.addr
    { a with keys := a.keys.set k.line (line.set k.addr (panel.set k.key (f (panel.get k.key)))) }

/-- Every talk of the active talk list with the given identifier changed by `f`. -/
def modTalk (s : State) (id : TalkId) (f : Talk → Talk) : State :=
  s.modArbiter fun a => { a with talks := a.talks.map fun t => if t.id = id then f t else t }

def talk? (s : State) (id : TalkId) : Option Talk := s.arbiter.talks.find? fun t => t.id = id

/-- The talk a key has in the active talk list, in any phase. -/
def keyTalk? (s : State) (k : KeyId) : Option Talk :=
  s.arbiter.talks.find? fun t => t.maker = .key k

/-- The members of a group, in order. -/
def group (s : State) (g : GroupNo) : List PortNo := s.arbiter.groups.get g

def lane (s : State) (l : LaneNo) : Lane := s.lanes.get l

def modLane (s : State) (l : LaneNo) (f : Lane → Lane) : State :=
  { s with lanes := s.lanes.set l (f (s.lane l)) }

def buffer (s : State) (b : BufNo) : PathBuf := s.buffers.get b

def modBuffer (s : State) (b : BufNo) (f : PathBuf → PathBuf) : State :=
  { s with buffers := s.buffers.set b (f (s.buffer b)) }

def healthRec (s : State) (l : LaneNo) : HealthRec := s.health.lanes.get l

def modHealthRec (s : State) (l : LaneNo) (f : HealthRec → HealthRec) : State :=
  { s with health := { s.health with lanes := s.health.lanes.set l (f (s.healthRec l)) } }

def modProbe (s : State) (f : Probe → Probe) : State := { s with probe := f s.probe }

def modWriter (s : State) (f : Writer → Writer) : State := { s with writer := f s.writer }

def modControl (s : State) (f : Control → Control) : State := { s with control := f s.control }

def modTiming (s : State) (f : Timing → Timing) : State := { s with timing := f s.timing }

/-- Station time (R8). -/
def time (s : State) : BitVec 32 := s.timing.stationTime

/-! ## The transmitter and the Report Queue (11 section 11.3) -/

/-- A free transmitter begins its next frame: the reply waiting longest, otherwise the oldest report,
otherwise nothing (R180). Once the RESTART reply has been sent it begins nothing until the restart
has taken effect (R183). -/
def startTransmitter (s : State) : State :=
  if s.control.tx.isSome || s.control.restart == .effectDue then s
  else
    match s.control.replies, s.reports.queue with
    | r :: rs, _ => { s with control := { s.control with replies := rs, tx := some (.reply r) } }
    | [], q :: qs =>
      { s with
        control := { s.control with tx := some (.report q) }
        reports := { s.reports with queue := qs } }
    | [], [] => s

/-- A block appends a report to the Report Queue. -/
def report (s : State) (r : Report) : State :=
  startTransmitter { s with reports := ReportQueue.offer s.reports r }

/-! ## Replies (R178) -/

/-- A reply is formed: it waits for the transmitter behind the replies before it. -/
def reply (s : State) (tag kind : Byte) (code : ResultCode) (fields : ReplyFields := .empty) :
    State :=
  startTransmitter
    { s with control := { s.control with replies := s.control.replies ++ [⟨tag, kind, code, fields⟩] } }

/-- A command enters service and waits for its job (R178). -/
def beginService (s : State) (tag kind : Byte) (clamped : Bool := false) : State :=
  { s with control := { s.control with service := some ⟨tag, kind, clamped⟩ } }

/-- The command in service gets its reply and leaves service; `code` is told whether a quantity was
clamped. Nothing happens when no command is in service. -/
def endService (s : State) (code : Bool → ResultCode) (fields : ReplyFields := .empty) : State :=
  match s.control.service with
  | some v =>
    reply { s with control := { s.control with service := none } } v.tag v.kind (code v.clamped)
      fields
  | none => s

/-! ## Free values -/

/-- The next free press stamp (log entry 16). -/
def freePressStamp (s : State) : BitVec 16 := Config.freePressStamp s.freeCount

/-- The next free syndrome, which is never 0 (R132, log entry 17). -/
def freeSyndrome (s : State) : BitVec 16 :=
  if Config.freeSyndrome s.freeCount = 0 then 1 else Config.freeSyndrome s.freeCount

/-- The free value of this moment has been used. -/
def useFree (s : State) : State := { s with freeCount := s.freeCount + 1 }

/-! ## When a command acts -/

/-- The controller can pass a command on: the reset line is released, no command is in service and no
RESTART is under way (R178, R182, R183). -/
def takesCommand (s : State) : Bool :=
  !s.resetHeld && s.control.service.isNone && s.control.restart == .none

/-- A scene commit is in flight (R53). -/
def committing (s : State) : Bool := s.writer.state == .committing

end State

/-- An event: nothing happens while the reset line is held (R11, R182). -/
def onEvent (s : State) (f : State → State) : Host.Outcome State Fault Refusal :=
  .next (if s.resetHeld then s else f s)

/-- A host command: it is judged when the controller can pass it on (R178; log entry 2). -/
def onCommand (s : State) (f : State → State) : Host.Outcome State Fault Refusal :=
  .next (if s.takesCommand then f s else s)

/-- All ports, lanes, and so on, in ascending number. -/
def allPorts : List PortNo := List.finRange 64
def allLanes : List LaneNo := List.finRange 24
def allBuffers : List BufNo := List.finRange 16
def allSlots : List SlotNo := List.finRange 24
def allAddrs : List PanelAddr := List.finRange 16
def allKeys : List KeyNo := List.finRange 32
def allTalkIds : List TalkId := List.finRange 128

/-! ## Command kinds (11 section 11.6) -/

namespace Kind
def identify : Byte := 0x01#8
def restart : Byte := 0x02#8
def stationIdSet : Byte := 0x03#8
def lineGet : Byte := 0x04#8
def clockSet : Byte := 0x05#8
def clockGet : Byte := 0x06#8
def portSet : Byte := 0x07#8
def portGet : Byte := 0x08#8
def xpSet : Byte := 0x09#8
def xpClear : Byte := 0x0A#8
def xpList : Byte := 0x0B#8
def sceneBegin : Byte := 0x0C#8
def sceneEntry : Byte := 0x0D#8
def sceneCommit : Byte := 0x0E#8
def sceneAbandon : Byte := 0x0F#8
def groupSet : Byte := 0x10#8
def groupGet : Byte := 0x11#8
def keySet : Byte := 0x12#8
def keyGet : Byte := 0x13#8
def filterSet : Byte := 0x14#8
def pollSet : Byte := 0x15#8
def panelGet : Byte := 0x16#8
def queueGet : Byte := 0x17#8
def talkList : Byte := 0x18#8
def talkForce : Byte := 0x19#8
def talkDrop : Byte := 0x1A#8
def laneSet : Byte := 0x1B#8
def laneGet : Byte := 0x1C#8
def laneRetune : Byte := 0x1D#8
def laneWake : Byte := 0x1E#8
def probe : Byte := 0x1F#8
def probeCancel : Byte := 0x20#8
def probeGet : Byte := 0x21#8
def healthSet : Byte := 0x22#8
def healthGet : Byte := 0x23#8
def unitGet : Byte := 0x24#8
def guardClear : Byte := 0x25#8
end Kind

end Sys2Proof.Machine
end

