-- ==== Sys2Proof/Decode.lean ====
section
/-! DEFINITION. How the Control Line Controller judges a frame by its kind and length and reads the
command it carries (R178, 11 section 11.6), the frame of each host command, and `decodeTableWord`. -/

namespace Sys2Proof

open Machine

/-! ## Judging a frame (R178) -/

/-- What the controller finds in a good frame. -/
inductive Judged
  | unknownKind
  | badLength
  /-- Refused by its block for a code that no command of this model carries. -/
  | badArg
  | command (i : Instr)
  deriving DecidableEq, Repr

/-- PORT-SET by its section byte; a section of no known code has no required length (R14, R178). The level and
return source bytes of a CANCEL body with OFF are not read. DESIGN CHOICE, log entry 45. -/
def judgePortSet (tag : Byte) (body : List Byte) : Judged :=
  match body with
  | port :: section_ :: rest =>
    match section_.toNat, rest with
    | 0, [cls] => .command (.portSetClass tag port cls)
    | 1, [t1, t0, m1, m0] => .command (.portSetLevels tag port (field 16 [t1, t0]) (field 16 [m1, m0]))
    | 2, [onOff] => .command (.portSetIsolate tag port onOff)
    | 3, [t, d1, d0, a1, a0, h1, h0, r1, r0] =>
      .command (.portSetDuck tag port t (field 16 [d1, d0]) (field 16 [a1, a0]) (field 16 [h1, h0])
        (field 16 [r1, r0]))
    | 4, [onOff, l1, l0, source] =>
      match onOff? onOff with
      | some true => .command (.portSetCancelOn tag port (field 16 [l1, l0]) source)
      | some false => .command (.portSetCancelOff tag port)
      | none => .badArg
    | 5, [line, addr] => .command (.portSetPanel tag port line addr)
    | 6, [primary, backup, present, i4, i3, i2, i1, i0, depth] =>
      match present.toNat with
      | 0 => .command (.portSetLanes tag port primary backup none depth)
      | 1 =>
        .command (.portSetLanes tag port primary backup (some (field 40 [i4, i3, i2, i1, i0])) depth)
      | _ => .badArg
    | n, _ => if n ≤ 6 then .badLength else .badArg
  | _ => .badLength

/-- FILTER-SET by its mode byte; a mode of no known code has no required length (R102, R178). -/
def judgeFilterSet (tag : Byte) (body : List Byte) : Judged :=
  match body with
  | line :: mode :: rest =>
    match mode.toNat, rest with
    | 0, [c2, c1, c0, m2, m1, m0] =>
      .command (.filterSet tag line (.single (field 20 [c2, c1, c0]) (field 20 [m2, m1, m0])))
    | 1, [a1, a0, m1, m0, b1, b0, n1, n0] =>
      .command (.filterSet tag line (.dual (field 12 [a1, a0]) (field 12 [m1, m0])
        (field 12 [b1, b0]) (field 12 [n1, n0])))
    | n, _ => if n ≤ 1 then .badLength else .command (.filterSet tag line (.unknown mode))
  | _ => .badLength

/-- GROUP-SET by its member count (R178). -/
def judgeGroupSet (tag : Byte) (body : List Byte) : Judged :=
  match body with
  | group :: count :: members =>
    if members.length = count.toNat then .command (.groupSet tag group members) else .badLength
  | _ => .badLength

/-- CLOCK-SET by its source byte, REFERENCE or FREE (R3). -/
def judgeClockSet (tag : Byte) (body : List Byte) : Judged :=
  match body with
  | [source] =>
    match source.toNat with
    | 0 => .command (.clockSetReference tag)
    | 1 => .command (.clockSetFree tag)
    | _ => .badArg
  | _ => .badLength

/-- A frame judged by its kind and its body length (R178). -/
def judgeFrame (f : ControlFrame) : Judged :=
  let tag := f.tag
  match f.kind.toNat, f.body with
  | 0x01, [] => .command (.identify tag)
  | 0x02, [] => .command (.restart tag)
  | 0x03, [i4, i3, i2, i1, i0] => .command (.stationIdSet tag (field 40 [i4, i3, i2, i1, i0]))
  | 0x04, [] => .command (.lineGet tag)
  | 0x05, body => judgeClockSet tag body
  | 0x06, [] => .command (.clockGet tag)
  | 0x07, body => judgePortSet tag body
  | 0x08, [port] => .command (.portGet tag port)
  | 0x09, [src, dst, l1, l0, cls] => .command (.xpSet tag src dst (field 16 [l1, l0]) cls)
  | 0x0A, [src, dst] => .command (.xpClear tag src dst)
  | 0x0B, [dst, start] => .command (.xpList tag dst start)
  | 0x0C, [] => .command (.sceneBegin tag)
  | 0x0D, [src, dst, l1, l0, cls] => .command (.sceneEntry tag src dst (field 16 [l1, l0]) cls)
  | 0x0E, [] => .command (.sceneCommit tag)
  | 0x0F, [] => .command (.sceneAbandon tag)
  | 0x10, body => judgeGroupSet tag body
  | 0x11, [group] => .command (.groupGet tag group)
  | 0x12, [line, addr, key, function, kind, target, l1, l0, cls, mode] =>
    .command (.keySet tag line addr key function kind target (field 16 [l1, l0]) cls mode)
  | 0x13, [line, addr, key] => .command (.keyGet tag line addr key)
  | 0x14, body => judgeFilterSet tag body
  | 0x15, [line, m1, m0] => .command (.pollSet tag line (field 16 [m1, m0]))
  | 0x16, [line, addr] => .command (.panelGet tag line addr)
  | 0x17, [line] => .command (.queueGet tag line)
  | 0x18, [start] => .command (.talkList tag start)
  | 0x19, [number, function, src, kind, target, l1, l0, cls] =>
    .command (.talkForce tag number function src kind target (field 16 [l1, l0]) cls)
  | 0x1A, [selector, number] => .command (.talkDrop tag selector number)
  | 0x1B, [lane, enable, preference] => .command (.laneSet tag lane enable preference)
  | 0x1C, [lane] => .command (.laneGet tag lane)
  | 0x1D, [lane, abilities] => .command (.laneRetune tag lane abilities)
  | 0x1E, [lane] => .command (.laneWake tag lane)
  | 0x1F, [port] => .command (.probe tag port none)
  | 0x1F, [port, l2, l1, l0, t2, t1, t0] =>
    .command (.probe tag port (some (field 24 [l2, l1, l0], field 24 [t2, t1, t0])))
  | 0x20, [port] => .command (.probeCancel tag port)
  | 0x21, [] => .command (.probeGet tag)
  | 0x22, [i1, i0, e1, e0, h1, h0, auto, r1, r0] =>
    .command (.healthSet tag (field 16 [i1, i0]) (field 16 [e1, e0]) (field 16 [h1, h0]) auto
      (field 16 [r1, r0]))
  | 0x23, [lane] => .command (.healthGet tag lane)
  | 0x24, [start] => .command (.unitGet tag start)
  | 0x25, [port] => .command (.guardClear tag port)
  | n, _ => if 0x01 ≤ n ∧ n ≤ 0x25 then .badLength else .unknownKind

/-! ## The frame of a command (11 section 11.6) -/

/-- A PORT-SET frame. -/
def portSetFrame (tag port section_ : Byte) (rest : List Byte) : Option ControlFrame :=
  some ⟨Kind.portSet, tag, port :: section_ :: rest⟩

/-- The frame that carries a host command; an internal event has none. -/
def Instr.frame? : Instr → Option ControlFrame
  | .identify tag => some ⟨Kind.identify, tag, []⟩
  | .restart tag => some ⟨Kind.restart, tag, []⟩
  | .stationIdSet tag identity => some ⟨Kind.stationIdSet, tag, fieldBytes 5 identity⟩
  | .lineGet tag => some ⟨Kind.lineGet, tag, []⟩
  | .clockSetReference tag => some ⟨Kind.clockSet, tag, [0]⟩
  | .clockSetFree tag => some ⟨Kind.clockSet, tag, [1]⟩
  | .clockGet tag => some ⟨Kind.clockGet, tag, []⟩
  | .portSetClass tag port cls => portSetFrame tag port 0 [cls]
  | .portSetLevels tag port trim master =>
    portSetFrame tag port 1 (fieldBytes 2 trim ++ fieldBytes 2 master)
  | .portSetIsolate tag port onOff => portSetFrame tag port 2 [onOff]
  | .portSetDuck tag port threshold depth attack hold release =>
    portSetFrame tag port 3
      (threshold :: fieldBytes 2 depth ++ fieldBytes 2 attack ++ fieldBytes 2 hold ++
        fieldBytes 2 release)
  | .portSetCancelOn tag port level returnSource =>
    portSetFrame tag port 4 (1 :: fieldBytes 2 level ++ [returnSource])
  | .portSetCancelOff tag port => portSetFrame tag port 4 [0, 0, 0, 0]
  | .portSetPanel tag port line addr => portSetFrame tag port 5 [line, addr]
  | .portSetLanes tag port primary backup identity depth =>
    portSetFrame tag port 6
      ([primary, backup] ++
        (match identity with
          | some v => 1 :: fieldBytes 5 v
          | none => [0, 0, 0, 0, 0, 0]) ++ [depth])
  | .portGet tag port => some ⟨Kind.portGet, tag, [port]⟩
  | .xpSet tag src dst level cls => some ⟨Kind.xpSet, tag, [src, dst] ++ fieldBytes 2 level ++ [cls]⟩
  | .xpClear tag src dst => some ⟨Kind.xpClear, tag, [src, dst]⟩
  | .xpList tag dst start => some ⟨Kind.xpList, tag, [dst, start]⟩
  | .sceneBegin tag => some ⟨Kind.sceneBegin, tag, []⟩
  | .sceneAbandon tag => some ⟨Kind.sceneAbandon, tag, []⟩
  | .sceneEntry tag src dst level cls =>
    some ⟨Kind.sceneEntry, tag, [src, dst] ++ fieldBytes 2 level ++ [cls]⟩
  | .sceneCommit tag => some ⟨Kind.sceneCommit, tag, []⟩
  | .groupSet tag group members =>
    some ⟨Kind.groupSet, tag, group :: BitVec.ofNat 8 members.length :: members⟩
  | .groupGet tag group => some ⟨Kind.groupGet, tag, [group]⟩
  | .keySet tag line addr key function targetKind target level cls mode =>
    some ⟨Kind.keySet, tag,
      [line, addr, key, function, targetKind, target] ++ fieldBytes 2 level ++ [cls, mode]⟩
  | .keyGet tag line addr key => some ⟨Kind.keyGet, tag, [line, addr, key]⟩
  | .filterSet tag line (.single code mask) =>
    some ⟨Kind.filterSet, tag, [line, 0] ++ fieldBytes 3 code ++ fieldBytes 3 mask⟩
  | .filterSet tag line (.dual codeA maskA codeB maskB) =>
    some ⟨Kind.filterSet, tag,
      [line, 1] ++ fieldBytes 2 codeA ++ fieldBytes 2 maskA ++ fieldBytes 2 codeB ++
        fieldBytes 2 maskB⟩
  | .filterSet tag line (.unknown mode) => some ⟨Kind.filterSet, tag, [line, mode]⟩
  | .pollSet tag line marks => some ⟨Kind.pollSet, tag, line :: fieldBytes 2 marks⟩
  | .panelGet tag line addr => some ⟨Kind.panelGet, tag, [line, addr]⟩
  | .queueGet tag line => some ⟨Kind.queueGet, tag, [line]⟩
  | .talkList tag start => some ⟨Kind.talkList, tag, [start]⟩
  | .talkForce tag number function src targetKind target level cls =>
    some ⟨Kind.talkForce, tag,
      [number, function, src, targetKind, target] ++ fieldBytes 2 level ++ [cls]⟩
  | .talkDrop tag selector number => some ⟨Kind.talkDrop, tag, [selector, number]⟩
  | .laneSet tag lane enable preference => some ⟨Kind.laneSet, tag, [lane, enable, preference]⟩
  | .laneGet tag lane => some ⟨Kind.laneGet, tag, [lane]⟩
  | .laneRetune tag lane abilities => some ⟨Kind.laneRetune, tag, [lane, abilities]⟩
  | .laneWake tag lane => some ⟨Kind.laneWake, tag, [lane]⟩
  | .probe tag port none => some ⟨Kind.probe, tag, [port]⟩
  | .probe tag port (some (level, threshold)) =>
    some ⟨Kind.probe, tag, port :: fieldBytes 3 level ++ fieldBytes 3 threshold⟩
  | .probeCancel tag port => some ⟨Kind.probeCancel, tag, [port]⟩
  | .probeGet tag => some ⟨Kind.probeGet, tag, []⟩
  | .healthSet tag interval threshold hardCount autoGuard retention =>
    some ⟨Kind.healthSet, tag,
      fieldBytes 2 interval ++ fieldBytes 2 threshold ++ fieldBytes 2 hardCount ++ [autoGuard] ++
        fieldBytes 2 retention⟩
  | .healthGet tag lane => some ⟨Kind.healthGet, tag, [lane]⟩
  | .unitGet tag start => some ⟨Kind.unitGet, tag, [start]⟩
  | .guardClear tag port => some ⟨Kind.guardClear, tag, [port]⟩
  | .hardwareReset | .resetRelease | .referencePeriodJudgement _ | .mixPass _ | .holdExpiry _
  | .frameBoundary | .barredCountExpiry _ | .controlFrameReceived _ | .lineGapTimeout
  | .commandDispatch | .transmitComplete | .restartTakeEffect | .jobTake | .claimPlace
  | .claimWithdraw | .claimLevelChange | .writeJobComplete | .commitDestination | .hostCommandTake
  | .keyRecordTake | .endJobIssue | .longTimerExpiry _ | .poll _ | .answer _ _
  | .answerWindowExpiry _ | .probeStart | .windowJudgement | .gapExpiry | .settleExpiry
  | .laneFrameReceived _ _ | .silenceExpiry _ | .handshakeTimeout _ | .wakeCountExpiry _
  | .sweepExpiry | .lengthOutOfRange _ | .answerBrokenOff _ => none

/-- The command a table word spells: none, since spec/opcode_table.json gives no row any bits (log
entry 7). -/
def decodeTableWord (_nbits _w : Nat) : Option Instr := none

end Sys2Proof
end

