-- ==== Sys2Proof/Machine/Flags.lean ====
section
/-! DEFINITION. The flags computed from the state: link presence and entry states (R35), duck triggers
(R57), port status (R39, R121, R155), lamps (R126), and what makes a port, lane or unit in use. -/

namespace Sys2Proof.Machine

/-! ## Ports and their lanes -/

/-- The lanes a port's binding names, primary first. -/
def Port.boundLanes (p : Port) : List LaneNo :=
  match p.binding with
  | some b => b.primary.toList ++ b.backup.toList
  | none => []

def Port.isUsed (p : Port) : Bool := p.cls != .unused

/-- The lane states in which a lane delivers blocks to its Path Buffer (R159). -/
def LaneState.delivers : LaneState → Bool
  | .live | .dozeHold | .waking => true
  | _ => false

/-- The run states (09 section 9.2). -/
def LaneState.isRun : LaneState → Bool
  | .live | .dozeHold | .doze | .waking => true
  | _ => false

/-- The states in which a lane keeps the unit it holds (R144, R147). -/
def LaneState.keepsUnit : LaneState → Bool
  | .pages | .live | .dozeHold | .doze | .waking => true
  | _ => false

namespace State

/-- A REMOTE port's link presence: at least one bound lane is LIVE (R35). -/
def linkPresent (s : State) (p : PortNo) : Bool :=
  (s.port p).boundLanes.any fun l => (s.lane l).state == .live

/-- At least one bound lane of the port delivers (R159). -/
def portDelivers (s : State) (p : PortNo) : Bool :=
  (s.port p).boundLanes.any fun l => (s.lane l).state.delivers

/-- The port's remote call (R154). -/
def portRemoteCall (s : State) (p : PortNo) : Bool :=
  (s.port p).boundLanes.any fun l => (s.lane l).remoteCall

/-! ## Entry states (R35) -/

/-- A port keeps its entries PARKED: it is isolated, or it is REMOTE without link presence. -/
def parks (s : State) (p : PortNo) : Bool :=
  (s.port p).isolated || ((s.port p).cls == .remote && !s.linkPresent p)

/-- The port's guard flag is set (it is REMOTE: only a REMOTE port has a lane binding). -/
def guarded (s : State) (p : PortNo) : Bool :=
  match (s.port p).binding with
  | some b => (s.port p).cls == .remote && b.guarded
  | none => false

/-- The state the ports of a pair give its entry: the first case of R35 that applies. -/
def entryState (s : State) (src dst : PortNo) : EntryState :=
  if s.parks src || s.parks dst then .parked
  else if s.guarded src && (s.port dst).cls == .feed then .guarded
  else .live

def entry? (s : State) (src dst : PortNo) : Option Entry :=
  (s.into dst).find? fun e => e.source = src

/-- The number of entries in the whole table. -/
def entryCount (s : State) : Nat := (s.xp.cells.map List.length).sum

end State

/-! ## Duck triggers (R57) -/

/-- A trigger is present: the threshold is a class and some LIVE entry is at or above it. -/
def triggerOf (profile : DuckProfile) (entries : List Entry) : Bool :=
  match profile.threshold with
  | some t => entries.any fun e => e.state == .live && decide (t ≤ e.cls)
  | none => false

/-! ## Port status told to lanes (R39, R155, R121) -/

def Claim.isTalk (c : Claim) : Bool :=
  match c.origin with
  | .talk _ => true
  | .fixed => false

def Talk.outcomeOn (t : Talk) (p : PortNo) : Option PlaceOutcome :=
  match t.outcomes with
  | some os => ((t.targets.zip os).find? fun x => x.1 = p).map (·.2)
  | none => none

namespace State

/-- The port is the source of at least one LIVE entry into a FEED port (ON-AIR, R39). -/
def onAirOf (s : State) (p : PortNo) : Bool :=
  allPorts.any fun d =>
    (s.port d).cls == .feed &&
      (s.into d).any fun e => decide (e.source = p) && e.state == .live

/-- The port is source or destination of at least one entry holding a TALK claim (R39, R155). -/
def talkClaimOf (s : State) (p : PortNo) : Bool :=
  allPorts.any fun d =>
    (s.into d).any fun e => (decide (e.source = p) || decide (d = p)) && e.claims.any Claim.isTalk

/-- The REMOTE port's local call indication: some ACTIVE CALL talk has an OK outcome on it (R121). -/
def localCallOf (s : State) (p : PortNo) : Bool :=
  (s.port p).cls == .remote &&
    s.arbiter.talks.any fun t =>
      t.function == .call && t.phase == .active && t.outcomeOn p == some .ok

/-! ## Panels, keys and lamps -/

/-- The PANEL port bound to a panel line and address (R24). -/
def panelPort? (s : State) (l : LineNo) (a : PanelAddr) : Option PortNo :=
  allPorts.find? fun p => (s.port p).cls == .panel && (s.port p).panel == some (l, a)

/-- A call is present for a key (R126). -/
def callPresent (s : State) (k : KeyId) : Bool :=
  let e := (s.key k).entry
  match e.function, e.target with
  | .talk, some (.port q) =>
    (match s.panelPort? k.line k.addr with
      | some own => s.arbiter.talks.any fun t =>
          t.function == .call && t.phase == .active && decide (t.talkingPort = q) &&
            t.outcomeOn own == some .ok
      | none => false) ||
      ((s.port q).cls == .remote && s.portRemoteCall q)
  | _, _ => false

/-- The lamp state of a key: the first of ON, PART, CALL and OFF that applies (R126). -/
def lamp (s : State) (k : KeyId) : Lamp :=
  let rest : Lamp := if s.callPresent k then .call else .off
  match s.keyTalk? k with
  | some t =>
    match t.phase, t.outcomes with
    | .active, some os =>
      if os.all (· == .ok) then .on
      else if os.any (· == .ok) then .part
      else rest
    | _, _ => rest
  | none => rest

/-- The lamps of a panel's 32 keys. -/
def panelLamps (s : State) (l : LineNo) (a : PanelAddr) : Table 32 Lamp :=
  Table.tabulate fun k => s.lamp ⟨l, a, k⟩

/-! ## What is in use -/

/-- The port under probe is the probed port of the running probe record (05 section 5.1). -/
def underProbe (s : State) (p : PortNo) : Bool :=
  match s.probe.run with
  | some r => decide (r.port = p)
  | none => false

/-- The port is the talking or listening port of an active talk (R24). -/
def talksFrom (s : State) (p : PortNo) : Bool :=
  s.arbiter.talks.any fun t => decide (t.talkingPort = p)

/-- A class change of the port is refused with IN-USE (R15). -/
def portInUse (s : State) (p : PortNo) : Bool :=
  (allPorts.any fun d => (s.into d).any fun e => decide (e.source = p) || decide (d = p)) ||
    (s.arbiter.talks.any fun t => decide (t.talkingPort = p) || t.targets.contains p) ||
    s.probe.queue.contains p || s.underProbe p || !(s.port p).boundLanes.isEmpty

/-- Another lane holds the same unit (R144, R173). -/
def heldElsewhere (s : State) (l : LaneNo) (unit : Ident) : Bool :=
  allLanes.any fun k => decide (k ≠ l) && (s.lane k).unitHeld == some unit

/-- The sweep interval has passed since the sweep start, modulo 2 raised to 32 (R167). -/
def sweepDue (s : State) : Bool :=
  decide (s.health.settings.interval * 48000 ≤ (s.time - s.health.sweepStart).toNat)

end State

end Sys2Proof.Machine
end

