-- ==== Sys2Proof/Machine/Duck.lean ====
section
/-! DEFINITION. The Duck Units (04 section 4.1) and the row HOLD_EXPIRY. A duck operation works on
the port record and the unit together, because entry to OPEN moves the pending profile, and is given
the entries into the port, because a profile change reassesses the trigger. -/

namespace Sys2Proof.Machine

/-- A port record with its Duck Unit. -/
abbrev DuckPort := Port × Duck

/-- The ramp step of an attack or a release of the given length (R59, R62). -/
def rampStep (profile : DuckProfile) (length : Nat) : Nat := ceilDiv (1024 - profile.depth) length

/-- The attack starts from the present factor, or goes straight to DUCKED if its length is 0 (R59,
R63). -/
def duckAttack (x : DuckPort) : DuckPort :=
  let profile := x.1.profile
  if profile.attack = 0 then
    (x.1, { x.2 with state := .ducked, factor := profile.depth, step := none })
  else (x.1, { x.2 with state := .attack, step := some (rampStep profile profile.attack) })

/-- The trigger of the profile in force is reassessed in OPEN; if it is present the attack starts
(R57, R64, R65). -/
def duckReassessOpen (entries : List Entry) (x : DuckPort) : DuckPort :=
  if triggerOf x.1.profile entries then duckAttack (x.1, { x.2 with trigger := true })
  else (x.1, { x.2 with trigger := false })

/-- Entry to OPEN: the factor is 1024, there is no step, a pending profile is applied, and the trigger
is reassessed (R64). -/
def duckOpen (entries : List Entry) (x : DuckPort) : DuckPort :=
  let port : Port :=
    match x.1.pendingProfile with
    | some profile => { x.1 with profile := profile, pendingProfile := none }
    | none => x.1
  duckReassessOpen entries
    (port, { x.2 with state := .opened, factor := 1024, step := none, holdRemaining := 0 })

/-- The hold expires: the release begins, or OPEN at once if its length is 0 (R62). -/
def duckHoldExpire (entries : List Entry) (x : DuckPort) : DuckPort :=
  let profile := x.1.profile
  if profile.release = 0 then duckOpen entries x
  else
    (x.1, { x.2 with
      state := .release, step := some (rampStep profile profile.release), holdRemaining := 0 })

/-- A trigger appears (R59, R62, R63). In ATTACK and DUCKED it cannot. -/
def duckAppear (x : DuckPort) : DuckPort :=
  let x : DuckPort := (x.1, { x.2 with trigger := true })
  match x.2.state with
  | .opened | .release => duckAttack x
  | .hold =>
    (x.1, { x.2 with state := .ducked, factor := x.1.profile.depth, holdRemaining := 0 })
  | .attack | .ducked => x

/-- A trigger goes (R61). In OPEN, HOLD and RELEASE there is none to go. -/
def duckGone (entries : List Entry) (x : DuckPort) : DuckPort :=
  let x : DuckPort := (x.1, { x.2 with trigger := false })
  match x.2.state with
  | .attack | .ducked =>
    if x.1.profile.hold = 0 then duckHoldExpire entries (x.1, { x.2 with step := none })
    else (x.1, { x.2 with state := .hold, step := none, holdRemaining := x.1.profile.hold })
  | .opened | .hold | .release => x

/-- The trigger is reassessed after an entry change; a change of it is a trigger event (R57). -/
def duckReassess (entries : List Entry) (x : DuckPort) : DuckPort :=
  let now := triggerOf x.1.profile entries
  if now = x.2.trigger then x
  else if now then duckAppear x
  else duckGone entries x

/-- The factor a Duck Unit supplies for a pass, by its state at the start of the pass (R58). -/
def duckFactor (x : DuckPort) : Nat :=
  let step := x.2.step.getD 0
  match x.2.state with
  | .opened => 1024
  | .attack => max x.1.profile.depth (x.2.factor - step)
  | .ducked => x.1.profile.depth
  | .hold => x.2.factor
  | .release => min 1024 (x.2.factor + step)

/-- What a pass changes in a Duck Unit: the ramp or the hold advances by one step, and a ramp that
reaches its end leaves its state (R58, R60, R62, R63). A hold that reaches 0 waits for its
expiry. -/
def duckAdvance (entries : List Entry) (x : DuckPort) : DuckPort :=
  let factor := duckFactor x
  match x.2.state with
  | .opened => x
  | .attack =>
    if factor = x.1.profile.depth then
      (x.1, { x.2 with state := .ducked, factor := factor })
    else (x.1, { x.2 with factor := factor })
  | .ducked => (x.1, { x.2 with factor := factor })
  | .hold => (x.1, { x.2 with holdRemaining := x.2.holdRemaining - 1 })
  | .release =>
    if factor = 1024 then duckOpen entries x
    else (x.1, { x.2 with factor := factor })

namespace State

/-- A duck operation on one port and its unit. -/
def onDuck (s : State) (p : PortNo) (f : List Entry → DuckPort → DuckPort) : State :=
  let x := f (s.into p) (s.port p, s.duck p)
  { s with ports := s.ports.set p x.1, ducks := s.ducks.set p x.2 }

/-- The Duck Unit of a destination takes a notice of the Table Writer (R39, R57). -/
def reassessDuck (s : State) (p : PortNo) : State := s.onDuck p duckReassess

end State

/-- HOLD_EXPIRY (R62): a HOLD whose hold remaining has reached 0 expires. -/
def execHoldExpiry (p : PortNo) (s : State) : Host.Outcome State Fault Refusal :=
  onEvent s fun s =>
    if (s.duck p).state = .hold ∧ (s.duck p).holdRemaining = 0 then s.onDuck p duckHoldExpire
    else s

end Sys2Proof.Machine
end

