-- ==== Sys2Proof/Machine/Restate.lean ====
section
/-! DEFINITION. What follows a change of an entry or of a port: the Table Writer re-decides entry
states (R36 to R38) and informs the Duck Unit, the Talk Arbiter and the Lane Controllers (R39). -/

namespace Sys2Proof.Machine

/-- The talk's outcome for one target port set by a notice: only OK and PARKED outcomes move (R119). -/
def Talk.applyNotice (t : Talk) (n : HeldNotice) : Talk :=
  let move (x : PortNo × PlaceOutcome) : PlaceOutcome :=
    if x.1 = n.target ∧ (x.2 = .ok ∨ x.2 = .parked) then (if n.live then .ok else .parked) else x.2
  { t with outcomes := t.outcomes.map fun os => (t.targets.zip os).map move }

/-- A talk receives the notice that its entry for `n.target` has moved between LIVE and another state:
kept while BEGINNING, applied while ACTIVE, discarded while ENDING (R119). An ACTIVE talk keeps a
notice about a port a GROUP-SET edit in flight is adding (log entry 20). -/
def Talk.takeNotice (t : Talk) (n : HeldNotice) : Talk :=
  match t.phase with
  | .beginning => { t with heldNotices := t.heldNotices ++ [n] }
  | .active =>
    if t.targets.contains n.target then t.applyNotice n
    else { t with heldNotices := t.heldNotices ++ [n] }
  | .ending => t

/-- The port a pair reaches for a talk: the destination of a TALK, the source of a LISTEN (R119). -/
def Talk.targetOf (t : Talk) (src dst : PortNo) : PortNo :=
  if t.function = .listen then src else dst

namespace State

/-- The Talk Arbiter is told that the entry of a pair holding claims of these origins has moved between
LIVE and another state (R39). -/
def noticeTalks (s : State) (src dst : PortNo) (claims : List Claim) (live : Bool) : State :=
  s.modArbiter fun a =>
    { a with talks := a.talks.map fun t =>
        if claims.any fun c => c.origin == .talk t.id then
          t.takeNotice ⟨t.targetOf src dst, live⟩
        else t }

/-- The bound lanes of a REMOTE port take its ON-AIR status (R39). -/
def refreshOnAir (s : State) (p : PortNo) : State :=
  (s.port p).boundLanes.foldl (fun s l => s.modLane l fun x => { x with onAir := s.onAirOf p }) s

/-- One entry is re-decided by R35. If its state changes, the Duck Unit of the destination, the talks
whose claims it holds (where it moves between LIVE and another state) and the lanes of the source are
told (R36, R39). -/
def restateEntry (s : State) (src dst : PortNo) : State :=
  match s.entry? src dst with
  | none => s
  | some e =>
    let now := s.entryState src dst
    if now = e.state then s
    else
      let s1 := s.setInto dst <| (s.into dst).map fun x =>
        if x.source = src then { x with state := now } else x
      let s2 := s1.reassessDuck dst
      let s3 :=
        if (now == .live) = (e.state == .live) then s2
        else s2.noticeTalks src dst e.claims (now == .live)
      s3.refreshOnAir src

/-- The pairs of entries that touch a port, destination by destination, in creation order. -/
def pairsTouching (s : State) (p : PortNo) : List (PortNo × PortNo) :=
  allPorts.flatMap fun d =>
    ((s.into d).filter fun e => e.source = p ∨ d = p).map fun e => (e.source, d)

/-- The Table Writer re-decides the state of every entry whose source or destination is the port
(R36, R37, R38). -/
def restatePort (s : State) (p : PortNo) : State :=
  (s.pairsTouching p).foldl (fun s x => s.restateEntry x.1 x.2) s

end State

end Sys2Proof.Machine
end

