-- ==== Sys2Proof/Machine/Health.lean ====
section
/-! DEFINITION. The Health Monitor (10): the sweep expiry with its classification, lead swap, auto-guard
and unit history, the settings, and the readings. -/

namespace Sys2Proof.Machine

/-! ## Classification (R167, R168) -/

/-- The four kinds of sweep (R168). -/
inductive SweepKind | empty | clean | noisy | bad
  deriving DecidableEq, Repr

/-- A lane's sweep by its errors and whether it accepted a frame. -/
def sweepKind (threshold : Nat) (h : HealthRec) : SweepKind :=
  if h.errors = 0 then (if h.framesAccepted then .clean else .empty)
  else if h.errors < threshold then .noisy
  else .bad

/-- The closed record: the syndrome AND is 0 if no syndrome was seen (R167). -/
def closedSweep (h : HealthRec) : SweepRecord :=
  { errors := h.errors
    syndromeAnd := if h.syndromesSeen then h.syndromeAnd else 0
    syndromeOr := h.syndromeOr }

/-- A lane classified by its closed sweep and its runs (R168). -/
def classify (settings : HealthSettings) (h : HealthRec) : HealthRec :=
  let closed := closedSweep h
  let h := { h with lastSweep := some closed }
  match sweepKind settings.threshold h with
  | .empty => h
  | .clean =>
    let run := addSat 5 h.cleanRun 1
    { h with badRun := 0, cleanRun := run, cls := if run = 5 then .good else h.cls }
  | .noisy => { h with badRun := 0, cleanRun := 0 }
  | .bad =>
    let run := addSat 3 h.badRun 1
    let pattern := closed.syndromeAnd ≠ 0 ∧ settings.hardCount ≤ h.errors
    { h with badRun := run, cleanRun := 0, cls := if run = 3 ∨ pattern then .hard else .soft }

/-- The accumulators emptied; the class, the runs and the last sweep stay (R167 step 2). -/
def HealthRec.emptied (h : HealthRec) : HealthRec :=
  { cls := h.cls, badRun := h.badRun, cleanRun := h.cleanRun, lastSweep := h.lastSweep }

/-- The worse of two classes (R174). -/
def worse : LaneClass → LaneClass → LaneClass
  | .hard, _ | _, .hard => .hard
  | .soft, _ | _, .soft => .soft
  | .good, .good => .good

namespace State

/-- One bound lane's sweep is closed and classified; LANE-CLASS on a change (R168, R169). -/
def closeLane (s : State) (l : LaneNo) : State :=
  match (s.lane l).boundPort with
  | none => s
  | some p =>
    let old := s.healthRec l
    let new := classify s.health.settings old
    let s1 := s.modHealthRec l fun _ => new
    if new.cls = old.cls then s1 else s1.report (.laneClass l p old.cls new.cls (closedSweep old))

/-- The lead of a port moves from a HARD primary to a LIVE backup that is not HARD (R170). -/
def swapLead (s : State) (p : PortNo) : State :=
  match (s.port p).binding with
  | none => s
  | some b =>
    match b.primary, b.backup with
    | some first, some second =>
      if b.lead = some first ∧ (s.healthRec first).cls = .hard ∧ (s.lane second).state = .live ∧
          (s.healthRec second).cls ≠ .hard then
        (s.modPort p fun x => { x with binding := some { b with lead := some second } }).report
          (.pathSwap p first second)
      else s
    | _, _ => s

/-- A port's guard flag is written. -/
def setGuard (s : State) (p : PortNo) (guard : Bool) : State :=
  s.modPort p fun x => { x with binding := x.binding.map fun b => { b with guarded := guard } }

/-- Auto-guard (R171): every bound lane of the port is HARD. -/
def autoGuard (s : State) (p : PortNo) : State :=
  match (s.port p).binding with
  | none => s
  | some b =>
    let lanes := (s.port p).boundLanes
    if s.health.settings.autoGuard ∧ b.guarded = false ∧ lanes ≠ [] ∧
        ∀ l ∈ lanes, (s.healthRec l).cls = .hard then
      ((s.setGuard p true).report (.guardSet p)).restatePort p
    else s

/-- Step 4 of the expiry for one port. -/
def judgePort (s : State) (p : PortNo) : State :=
  if (s.port p).cls = .remote then (s.swapLead p).autoGuard p else s

/-- The bound lanes of the port whose lane holds a unit (R174). -/
def lanesOf (s : State) (unit : Ident) : List LaneNo :=
  match (allLanes.find? fun l => (s.lane l).unitHeld == some unit).bind
    fun l => (s.lane l).boundPort with
  | some p => (s.port p).boundLanes
  | none => []

/-- A connected entry after a sweep (R174). `before` holds the lanes' records as the sweep closed them;
`s` has their classes after it. -/
def sweptUnit (s before : State) (e : UnitEntry) : UnitEntry :=
  let lanes := s.lanesOf e.identity
  let kind (l : LaneNo) : SweepKind :=
    sweepKind before.health.settings.threshold (before.healthRec l)
  let anyBad := lanes.any fun l => kind l == .bad
  let anyNoisy := lanes.any fun l => kind l == .noisy
  let anyClean := lanes.any fun l => kind l == .clean
  let turnedHard := lanes.any fun l =>
    (before.healthRec l).cls != .hard && (s.healthRec l).cls == .hard
  let caution := e.caution || turnedHard
  let run := if !anyBad && !anyNoisy && anyClean then addSat 255 e.goodRun 1 else e.goodRun
  { e with
    badSweeps := if anyBad then addSat 65535 e.badSweeps 1 else e.badSweeps
    goodRun := if anyBad then 0 else run
    caution := if !anyBad && !anyNoisy && anyClean && decide (20 ≤ run) then false else caution
    lastClass :=
      if lanes.isEmpty then e.lastClass
      else (lanes.map fun l => (s.healthRec l).cls).foldl worse .good }

/-- A disconnected entry has its retention lowered (R174). -/
def agedUnit (e : UnitEntry) : UnitEntry :=
  { e with retentionLeft := some (e.retentionLeft.getD 0 - 1) }

/-- Step 5 of the expiry for one entry: kept, updated, or removed with UNIT-FORGOTTEN (R174). -/
def sweepUnit (before : State) (s : State) (e : UnitEntry) : State :=
  if e.connected then { s with units := s.units ++ [s.sweptUnit before e] }
  else
    let aged := agedUnit e
    if aged.retentionLeft = some 0 then s.report (.unitForgotten e.identity .expired)
    else { s with units := s.units ++ [aged] }

/-- Every lane's accumulators emptied and the next sweep begun (R167 steps 2 and 3). -/
def beginSweep (s : State) : State :=
  { s with
    health := { s.health with
      lanes := s.health.lanes.map HealthRec.emptied, sweepStart := s.time } }

/-- The sweep expiry, in the order of R167. -/
def sweep (s : State) : State :=
  let s1 := (allLanes.foldl closeLane s).beginSweep
  let s2 := allPorts.foldl judgePort s1
  s.units.foldl (sweepUnit s) { s2 with units := [] }

end State

/-- SWEEP_EXPIRY (R167). -/
def execSweepExpiry (s : State) : Host.Outcome State Fault Refusal :=
  onEvent s fun s => if s.sweepDue then s.sweep else s

/-! ## Commands -/

/-- HEALTH-SET (R175). A sweep whose new interval has passed already is then due (log entry 37). -/
def execHealthSet (tag : Byte) (interval threshold hardCount : Half) (autoGuard : Byte)
    (retention : Half) (s : State) : Host.Outcome State Fault Refusal :=
  onCommand s fun s =>
    match onOff? autoGuard with
    | some auto =>
      let settings : HealthSettings :=
        { interval := clampTo 1 3600 interval.toNat
          threshold := clampTo 1 1000 threshold.toNat
          hardCount := clampTo 1 1000 hardCount.toNat
          autoGuard := auto
          retention := clampTo 1 1000 retention.toNat }
      let fits := inRange 1 3600 interval.toNat && inRange 1 1000 threshold.toNat &&
        inRange 1 1000 hardCount.toNat && inRange 1 1000 retention.toNat
      { s with health := { s.health with settings := settings } }.reply tag Kind.healthSet
        (okOr (!fits))
    | none => s.reply tag Kind.healthSet .badArg

/-- HEALTH-GET (R176). -/
def execHealthGet (tag lane : Byte) (s : State) : Host.Outcome State Fault Refusal :=
  onCommand s fun s =>
    match number? 24 lane with
    | some l =>
      s.reply tag Kind.healthGet .ok
        (.health
          { settings := s.health.settings, elapsed := s.time - s.health.sweepStart
            lane := s.healthRec l })
    | none => s.reply tag Kind.healthGet .badArg

/-- UNIT-GET (R176). -/
def execUnitGet (tag start : Byte) (s : State) : Host.Outcome State Fault Refusal :=
  onCommand s fun s =>
    s.reply tag Kind.unitGet .ok
      (.units s.units.length ((s.units.drop start.toNat).take 4))

/-- GUARD-CLEAR (R171): a guard flag set is cleared, and the port's entries re-stated (R38). -/
def execGuardClear (tag port : Byte) (s : State) : Host.Outcome State Fault Refusal :=
  onCommand s fun s =>
    match number? 64 port with
    | some p =>
      if (s.port p).cls ≠ .remote then s.reply tag Kind.guardClear .wrongClass
      else
        let s1 := s.reply tag Kind.guardClear .ok
        if s.guarded p then (s1.setGuard p false).restatePort p else s1
    | none => s.reply tag Kind.guardClear .badArg

end Sys2Proof.Machine
end

