-- ==== Sys2Proof/Machine/LaneOps.lean ====
section
/-! DEFINITION. The lane state machine's shared operations (08, 09): changes of lane state with the
notices of R159, fresh handshakes, handshake errors and faults, loss, wakes, and the frames a lane
sends. -/

namespace Sys2Proof.Machine

/-! ## The silence timer's lengths (R134) -/

/-- The length a frame or a change of lane state sets. -/
def LaneState.silenceLength : LaneState → Nat
  | .doze => 792
  | _ => 72

/-- The length a silence expiry sets. -/
def LaneState.silencePeriod : LaneState → Nat
  | .doze => 768
  | _ => 48

/-- The silent count that loses a lane: 4 in DOZE, 32 in the other states that can be lost, none in
OFF, SEEK and BARRED (R153). -/
def LaneState.lossLimit : LaneState → Option Nat
  | .doze => some 4
  | .offer | .pages | .live | .dozeHold | .waking => some 32
  | .off | .seek | .barred => none

/-- The lane itself takes a new state: LIVE-HELD falls on leaving LIVE (R160), and a running silence
timer is set to the new state's length (R134). -/
def Lane.arrive (x : Lane) (st : LaneState) : Lane :=
  { x with
    state := st
    liveHeld := x.liveHeld && (x.state != .live || st == .live)
    silenceTimer := x.silenceTimer.map fun _ => st.silenceLength }

/-- A Path Buffer stopped and flushed (R161): its owner and the block already presented stay. -/
def PathBuf.flush (b : PathBuf) : PathBuf := { owner := b.owner, presented := b.presented }

namespace State

/-! ## Notices of a change of lane state (R159) -/

/-- The lane lets its unit go: the entry is disconnected, with the retention in force, if no other
lane holds the unit (R147, R173). -/
def releaseUnit (s : State) (l : LaneNo) : State :=
  match (s.lane l).unitHeld with
  | none => s
  | some unit =>
    let s1 := s.modLane l fun x => { x with unitHeld := none }
    if s.heldElsewhere l unit then s1
    else
      { s1 with units := s1.units.map fun e =>
          if e.identity = unit then
            { e with connected := false, retentionLeft := some s.health.settings.retention }
          else e }

/-- The Path Buffer of a port is stopped and flushed (R161). -/
def flushBuffer (s : State) (p : PortNo) : State :=
  match (s.port p).binding with
  | some b => s.modBuffer b.buffer PathBuf.flush
  | none => s

/-- A lane changes state and gives its notices, each only where it alters what it reports: link
presence to the Table Writer, the unit to the Health Monitor, the remote call to the Talk Arbiter
(which reads it for lamps), delivery to the Path Buffer (R159). -/
def changeLaneState (s : State) (l : LaneNo) (st : LaneState) : State :=
  let left := s.lane l
  let s1 := s.modLane l fun x => x.arrive st
  let s2 :=
    match left.boundPort with
    | some p => if s1.linkPresent p = s.linkPresent p then s1 else s1.restatePort p
    | none => s1
  let s3 := if st.keepsUnit then s2 else s2.releaseUnit l
  let s4 := if st.isRun then s3 else s3.modLane l fun x => { x with remoteCall := false }
  match left.boundPort with
  | some p => if s.portDelivers p && !s4.portDelivers p then s4.flushBuffer p else s4
  | none => s4

/-- A LANE-STATE report (09 section 9.2). -/
def reportLaneState (s : State) (l : LaneNo) (left : LaneState) (cause : LaneCause) : State :=
  s.report (.laneState l (s.lane l).boundPort left (s.lane l).state cause)

/-! ## Entries to the lane states -/

/-- The seed of an offer round: the low 8 bits of station time, XOR the lane number (R137, R139). -/
def roundSeed (s : State) (l : LaneNo) : Byte := s.time.setWidth 8 ^^^ BitVec.ofNat 8 l.val

/-- Entry to SEEK from whatever state: a fresh handshake and its first offer round (R137). -/
def enterSeek (s : State) (l : LaneNo) : State :=
  (s.changeLaneState l .seek).modLane l fun x =>
    { x with
      role := none, profile := none
      matchedOffer := none, tiedOffer := none, matchCount := 0, attempts := 0, progress := 0
      ownAck := false, ownSeed := s.roundSeed l, roundPref := x.pref
      pageSent := .id0, ownToggle := false, lastToggle := true, pagesAccepted := none
      remoteParts := [], id3Acked := false
      txSeq := 0, sentBlock1 := none, sentBlock2 := none
      lastSeq := none, silentCount := 0, silenceTimer := none }

/-- Entry to OFF (R149). Latches and counters are kept; no report is queued. -/
def enterOff (s : State) (l : LaneNo) : State :=
  (s.changeLaneState l .off).modLane l fun x =>
    { x with
      silenceTimer := none, lastSeq := none
      consecutiveErrors := 0, barredCount := 0, dozeRun := 0, keepAliveCallRun := 0, wakeCount := 0
      role := none, profile := none
      onAir := false, talkClaim := false, localCall := false }

/-- Entry to BARRED: LANE-STATE with the cause, no consecutive errors, 1000 frame periods (R146). -/
def enterBarred (s : State) (l : LaneNo) (cause : LaneCause) : State :=
  let left := (s.lane l).state
  let s1 := (s.changeLaneState l .barred).reportLaneState l left cause
  s1.modLane l fun x =>
    { x with
      consecutiveErrors := 0, barredCount := 1000, silenceTimer := none
      roleFaultLatch := x.roleFaultLatch || cause == .roleFault }

/-- A handshake error: SEEK, or BARRED on the third in a row (R146). -/
def handshakeError (s : State) (l : LaneNo) : State :=
  let s1 := s.modLane l fun x => { x with consecutiveErrors := x.consecutiveErrors + 1 }
  if (s1.lane l).consecutiveErrors < 3 then s1.enterSeek l else s1.enterBarred l .errors

/-- Entry to LIVE with the notices of R152 and a LANE-STATE report with the cause. -/
def enterLive (s : State) (l : LaneNo) (cause : LaneCause) : State :=
  let left := (s.lane l).state
  let s1 := (s.changeLaneState l .live).modLane l fun x => { x with consecutiveErrors := 0 }
  s1.reportLaneState l left cause

/-- DOZE-HOLD returns to LIVE with doze run 0 and no report (R155). -/
def returnToLive (s : State) (l : LaneNo) : State :=
  (s.changeLaneState l .live).modLane l fun x => { x with dozeRun := 0, consecutiveErrors := 0 }

/-- Entry to DOZE; the LANE-STATE report is omitted after an unanswered wake (R156, R157). -/
def enterDoze (s : State) (l : LaneNo) (announce : Bool) : State :=
  let left := (s.lane l).state
  let s1 := (s.changeLaneState l .doze).modLane l fun x =>
    { x with keepAliveCallRun := 0, dozeBoundaries := 0 }
  if announce then s1.reportLaneState l left .doze else s1

/-- DOZE goes to WAKING with wake count 0 (R156). -/
def enterWaking (s : State) (l : LaneNo) : State :=
  (s.changeLaneState l .waking).modLane l fun x => { x with wakeCount := 0 }

/-- The lane is lost: LOST, the notices, LANE-STATE with cause LOST, SEEK (R153). -/
def loseLane (s : State) (l : LaneNo) : State :=
  let left := (s.lane l).state
  let s1 := (s.modLane l fun x => { x with lostLatch := true }).enterSeek l
  s1.reportLaneState l left .lost

/-- The lane is lost if its silent count has reached its state's limit, or stands beyond it (R153; log entry
44). -/
def checkLoss (s : State) (l : LaneNo) : State :=
  match (s.lane l).state.lossLimit with
  | some limit => if limit ≤ (s.lane l).silentCount then s.loseLane l else s
  | none => s

/-! ## Wakes and port status -/

/-- A wake request, or a local call that becomes present: DOZE-HOLD returns to LIVE, DOZE goes to
WAKING, any other state takes no action (R121, R155, R156). -/
def wakeLane (s : State) (l : LaneNo) : State :=
  match (s.lane l).state with
  | .dozeHold => s.returnToLive l
  | .doze => s.enterWaking l
  | _ => s

/-- A wake request to the bound lanes of a REMOTE port (R121). -/
def wakePort (s : State) (p : PortNo) : State :=
  if (s.port p).cls = .remote then (s.port p).boundLanes.foldl wakeLane s else s

/-- The port's lanes are told its local call indication where it has changed (R121). -/
def refreshLocalCall (s : State) (p : PortNo) : State :=
  (s.port p).boundLanes.foldl
    (fun s l =>
      let now := s.localCallOf p
      if now = (s.lane l).localCall then s
      else
        let s1 := s.modLane l fun x => { x with localCall := now }
        if now then s1.wakeLane l else s1)
    s

/-- The port's lanes are told whether an entry touching it holds a TALK claim, where that has changed;
a lane in DOZE-HOLD returns to LIVE when one does (R39, R155). -/
def refreshTalkClaim (s : State) (p : PortNo) : State :=
  (s.port p).boundLanes.foldl
    (fun s l =>
      let now := s.talkClaimOf p
      if now = (s.lane l).talkClaim then s
      else
        let s1 := s.modLane l fun x => { x with talkClaim := now }
        if now && (s1.lane l).state == .dozeHold then s1.returnToLive l else s1)
    s

/-! ## Sending (R130, R131) -/

/-- The port's block of the most recent frame period that has completed at the Mix Engine (R130);
passes that were not performed count as 0 (log entry 26). -/
def outputBlock (s : State) (p : PortNo) : Block :=
  List.replicate (48 - s.mix.lastFrame.length) 0 ++ s.mix.lastFrame.map fun t => t.get p

/-- The payload of the page a lane sends: 10 bits of the identity sent, or the profile (R143). -/
def pagePayload (x : Lane) : BitVec 10 :=
  match x.pageSent with
  | .id0 => x.identitySent.extractLsb' 30 10
  | .id1 => x.identitySent.extractLsb' 20 10
  | .id2 => x.identitySent.extractLsb' 10 10
  | .id3 => x.identitySent.extractLsb' 0 10
  | .endPage => (x.profile.map profilePayload).getD 0

/-- The lane's port has its local call indication (R121, R154). -/
def calling (s : State) (l : LaneNo) : Bool := (s.lane l).boundPort.any s.localCallOf

/-- The control word a lane sends in its state (R130, R137, R138, R143, R154). CALL is the port's
indication as the frame is formed; ON-AIR is what the Table Writer last told the lane. -/
def laneWord (s : State) (l : LaneNo) : BitVec 16 :=
  let x := s.lane l
  match x.state with
  | .pages => pageWord x.pageSent x.ownToggle x.lastToggle (pagePayload x)
  | .live => runWord (s.calling l) false false x.onAir
  | .dozeHold | .doze => runWord (s.calling l) true false x.onAir
  | .waking => runWord (s.calling l) false true x.onAir
  | .off | .seek | .offer | .barred => offerWord ⟨x.abilities, x.roundPref, x.ownSeed⟩ x.ownAck

/-- The audio a lane sends: none, the new block, or in ROBUST the new block and the block carried new
two frames earlier, zeros if that frame carried none (R130), also where a DOZE between them was short. DESIGN
CHOICE, log entry 50. -/
def laneAudio (x : Lane) (new : Block) : List Block :=
  if x.state.delivers then
    match x.profile with
    | some .robust => [new, x.sentBlock2.getD zeroBlock]
    | _ => [new]
  else []

/-- The lane sends one frame: it carries the transmit sequence, which then increases (R130); in OFFER
and PAGES the progress count rises (R141), in WAKING the wake count (R157). -/
def sendFrame (s : State) (l : LaneNo) : State :=
  s.modLane l fun x =>
    let new := match x.boundPort with
      | some p => s.outputBlock p
      | none => zeroBlock
    let audio := laneAudio x new
    { x with
      frameOut := some ⟨x.txSeq, s.laneWord l, audio⟩
      txSeq := x.txSeq + 1
      sentBlock2 := x.sentBlock1
      sentBlock1 := audio.head?
      progress :=
        if x.state = .offer ∨ x.state = .pages then addSat 250 x.progress 1 else x.progress
      wakeCount := if x.state = .waking then addSat 2000 x.wakeCount 1 else x.wakeCount }

/-- A lane the part follows sends a frame for each frame it receives and at each silence expiry, unless
that has left it in a state that sends nothing, or only at station frame boundaries (R130, R131). -/
def sendIfFollowing (s : State) (l : LaneNo) : State :=
  match (s.lane l).state with
  | .pages | .live | .dozeHold | .doze | .waking =>
    if (s.lane l).role = some .follow then s.sendFrame l else s
  | .off | .seek | .offer | .barred => s

/-- At a station frame boundary a lane in SEEK or OFFER and a lane the part leads send a frame; in DOZE
only every 16th (R130, R131). -/
def sendAtBoundary (s : State) (l : LaneNo) : State :=
  let x := s.lane l
  match x.state with
  | .seek | .offer => s.sendFrame l
  | .pages | .live | .dozeHold | .waking => if x.role = some .lead then s.sendFrame l else s
  | .doze =>
    if x.role = some .lead then
      if 15 ≤ x.dozeBoundaries then
        (s.modLane l fun x => { x with dozeBoundaries := 0 }).sendFrame l
      else s.modLane l fun x => { x with dozeBoundaries := x.dozeBoundaries + 1 }
    else s
  | .off | .barred => s

end State

end Sys2Proof.Machine
end

