-- ==== Sys2Proof/Machine/Handshake.lean ====
section
/-! DEFINITION. The handshake (08 sections 8.4 to 8.6): offers and the role, pages, the identity check
with the Unit History Table's entry, and the END exchange. -/

namespace Sys2Proof.Machine

/-! ## The Unit History Table's entry for a unit (R172) -/

/-- The entry to evict: the disconnected one with the least retention left, the earliest among
equals. -/
def evictee? (units : List UnitEntry) : Option UnitEntry :=
  (units.filter fun e => !e.connected).foldl
    (fun best e =>
      match best with
      | none => some e
      | some b => if e.retentionLeft.getD 0 < b.retentionLeft.getD 0 then some e else some b)
    none

namespace State

/-- A unit's entry is found or made, and marked connected (R172). With 32 entries and none
disconnected, which cannot arise, no entry is made (log entry 39). -/
def connectUnit (s : State) (unit : Ident) : State :=
  if s.units.any fun e => e.identity = unit then
    { s with units := s.units.map fun e =>
        if e.identity = unit then { e with connected := true, retentionLeft := none } else e }
  else if s.units.length < 32 then
    let fresh : UnitEntry := { identity := unit }
    { s with units := s.units ++ [fresh] }
  else
    match evictee? s.units with
    | some gone =>
      let kept := s.units.filter fun e => e.identity ≠ gone.identity
      let fresh : UnitEntry := { identity := unit }
      { s with units := kept ++ [fresh] }.report (.unitForgotten gone.identity .evicted)
    | none => s

/-- The caution flag of a unit's entry. -/
def cautionOf (s : State) (unit : Ident) : Bool :=
  s.units.any fun e => decide (e.identity = unit) && e.caution

end State

/-! ## The role (R139) -/

/-- What resolution finds. -/
inductive Resolution | noProfile | roleFault | tie | role (r : Role)
  deriving DecidableEq, Repr

/-- Some ability is in both sets. -/
def Abilities.common (a b : Abilities) : Bool := (a.tight && b.tight) || (a.robust && b.robust)

/-- Abilities are compared first, then the table of role preferences, the part's and the remote's
(R139). -/
def resolveRole (part remote : Offer) : Resolution :=
  if !part.abilities.common remote.abilities then .noProfile
  else
    match part.pref, remote.pref with
    | .lead, .lead | .follow, .follow => .roleFault
    | .lead, _ | .either, .follow => .role .lead
    | .follow, _ | .either, .lead => .role .follow
    | .either, .either =>
      if remote.seed.toNat < part.seed.toNat then .role .lead
      else if part.seed.toNat < remote.seed.toNat then .role .follow
      else .tie

/-- The offer a lane makes in its present round. -/
def Lane.offer (x : Lane) : Offer := ⟨x.abilities, x.roundPref, x.ownSeed⟩

namespace State

/-- Entry to PAGES with the role resolved (R139, R140). -/
def enterPages (s : State) (l : LaneNo) (r : Role) : State :=
  (s.changeLaneState l .pages).modLane l fun x =>
    { x with
      role := some r, identitySent := s.stationId
      pageSent := .id0, ownToggle := false, lastToggle := true, progress := 0 }

/-- A tie: ROLE-FAULT at the fifth attempt, otherwise a new offer round (R139). -/
def tieOffers (s : State) (l : LaneNo) : State :=
  let s1 := s.modLane l fun x => { x with attempts := x.attempts + 1 }
  if 5 ≤ (s1.lane l).attempts then s1.enterBarred l .roleFault
  else
    s1.modLane l fun x =>
      { x with
        tiedOffer := x.matchedOffer, matchedOffer := none, matchCount := 0, ownAck := false
        progress := 0, ownSeed := s.roundSeed l, roundPref := x.pref }

/-- The role is resolved from the lane's offer and the matched offer (R139). -/
def resolve (s : State) (l : LaneNo) : State :=
  match (s.lane l).matchedOffer with
  | none => s
  | some remote =>
    match resolveRole (s.lane l).offer remote with
    | .noProfile => s.handshakeError l
    | .roleFault => s.enterBarred l .roleFault
    | .tie => s.tieOffers l
    | .role r => s.enterPages l r

/-! ## Offers (R137, R138) -/

/-- The first OFFER word in SEEK sends the lane to OFFER with that offer matched once (R137, R141). -/
def firstOffer (s : State) (l : LaneNo) (o : Offer) : State :=
  (s.changeLaneState l .offer).modLane l fun x =>
    { x with matchedOffer := some o, matchCount := 1, progress := 0 }

/-- An OFFER word accepted in OFFER (R138). -/
def judgeOffer (s : State) (l : LaneNo) (o : Offer) (ack : Bool) : State :=
  let x := s.lane l
  if x.tiedOffer = some o then s
  else if x.matchedOffer = some o then
    let count := min 3 (x.matchCount + 1)
    let ownAck := x.ownAck || count == 3
    let s1 := s.modLane l fun x =>
      { x with tiedOffer := none, matchCount := count, ownAck := ownAck }
    if ack && ownAck then s1.resolve l else s1
  else
    s.modLane l fun x =>
      { x with tiedOffer := none, matchedOffer := some o, matchCount := 1, ownAck := false }

end State

/-! ## Pages (R142 to R145) -/

/-- The page expected after the last one accepted. -/
def nextPage? : Option PageCode → Option PageCode
  | none => some .id0
  | some .id0 => some .id1
  | some .id1 => some .id2
  | some .id2 => some .id3
  | some .id3 => some .endPage
  | some .endPage => none

/-- The identity spelled by 10-bit parts, the most significant first. -/
def joinParts (parts : List (BitVec 10)) : Ident :=
  BitVec.ofNat 40 (parts.foldl (fun n p => n * 1024 + p.toNat) 0)

/-- The profile chosen from the caution flag and the two sets of abilities (R144). -/
def chooseProfile (caution : Bool) (part remote : Abilities) : Profile :=
  let robust := part.robust && remote.robust
  let tight := part.tight && remote.tight
  if caution then (if robust then .robust else .tight) else if tight then .tight else .robust

namespace State

/-- One of the three identity checks of R144 fails: the port's expected identity, the port's other
bound lane, a lane bound to another port. -/
def identityMismatch (s : State) (l : LaneNo) (p : PortNo) (remote : Ident) : Bool :=
  ((s.port p).binding.bind LaneBinding.expected).any (fun e => decide (e ≠ remote)) ||
    (s.port p).boundLanes.any (fun k =>
      decide (k ≠ l) && (s.lane k).unitHeld.any fun u => decide (u ≠ remote)) ||
    allLanes.any fun k =>
      (s.lane k).boundPort.any (fun q => decide (q ≠ p)) && (s.lane k).unitHeld == some remote

/-- The remote's ID3: the identity check, the unit's entry, and the profile (R144). -/
def identify (s : State) (l : LaneNo) : State :=
  let remote := joinParts (s.lane l).remoteParts
  match (s.lane l).boundPort with
  | none => s
  | some p =>
    if s.identityMismatch l p remote then s.enterBarred l .mismatch
    else
      let s1 := (s.modLane l fun x => { x with unitHeld := some remote }).connectUnit remote
      let offered := ((s.lane l).matchedOffer.map Offer.abilities).getD {}
      let caution := s1.cautionOf remote
      let profile := chooseProfile caution (s.lane l).abilities offered
      let s2 := s1.modLane l fun x => { x with profile := some profile }
      if caution ∧ profile = .tight then s2.report (.profileForced l p remote) else s2

/-- A PAGE word judged for its echo: an echo of the own toggle acknowledges the page sent, and the lane
moves to its next page (R143). -/
def judgeEcho (s : State) (l : LaneNo) (echo : Bool) : State :=
  s.modLane l fun x =>
    let acked := echo == x.ownToggle
    let x := if acked then { x with progress := 0 } else x
    let moved (page : PageCode) : Lane := { x with pageSent := page, ownToggle := !x.ownToggle }
    match x.pageSent with
    | .id0 => if acked then moved .id1 else x
    | .id1 => if acked then moved .id2 else x
    | .id2 => if acked then moved .id3 else x
    | .id3 =>
      let id3Acked := x.id3Acked || acked
      if id3Acked && (x.pagesAccepted == some .id3 || x.pagesAccepted == some .endPage) then
        { moved .endPage with id3Acked := id3Acked }
      else { x with id3Acked := id3Acked }
    | .endPage => x

/-- The remote's END: it must acknowledge the lane's END and carry its profile (R145). -/
def judgeEnd (s : State) (l : LaneNo) (echo : Bool) (payload : BitVec 10) : State :=
  let x := s.lane l
  if x.pageSent = .endPage ∧ echo = x.ownToggle ∧ x.profile.map profilePayload = some payload then
    s.enterLive l .handshake
  else s.handshakeError l

/-- A new page with the expected code is taken (R142). -/
def takePage (s : State) (l : LaneNo) (code : PageCode) (toggle echo : Bool)
    (payload : BitVec 10) : State :=
  let s1 := s.modLane l fun x =>
    { x with lastToggle := toggle, progress := 0, pagesAccepted := some code }
  let store (s : State) : State :=
    s.modLane l fun x => { x with remoteParts := x.remoteParts ++ [payload] }
  match code with
  | .id0 | .id1 | .id2 => (store s1).judgeEcho l echo
  | .id3 =>
    let s2 := (store s1).identify l
    if (s2.lane l).state = .pages then s2.judgeEcho l echo else s2
  | .endPage => s1.judgeEnd l echo payload

/-- A PAGE word accepted in PAGES is a new page, a repeat, or the error ORDER (R142). -/
def judgePage (s : State) (l : LaneNo) (code : BitVec 3) (toggle echo : Bool)
    (payload : BitVec 10) : State :=
  match pageCode? code with
  | none => s.handshakeError l
  | some page =>
    let x := s.lane l
    if toggle ≠ x.lastToggle then
      if nextPage? x.pagesAccepted = some page then s.takePage l page toggle echo payload
      else s.handshakeError l
    else if x.pagesAccepted = some page then s.judgeEcho l echo
    else s.handshakeError l

/-- A PAGE word accepted in OFFER (R140): with the own ACK set and three matches the role is resolved
from it; anything else is the error ORDER. -/
def pageInOffer (s : State) (l : LaneNo) (code : BitVec 3) (toggle echo : Bool)
    (payload : BitVec 10) : State :=
  if (s.lane l).ownAck = true ∧ (s.lane l).matchCount = 3 then
    let s1 := s.resolve l
    if (s1.lane l).state = .pages then s1.judgePage l code toggle echo payload else s1
  else s.handshakeError l

end State

end Sys2Proof.Machine
end

