-- ==== Sys2Proof/Machine/PathBuffer.lean ====
section
/-! DEFINITION. The Path Buffers (09 section 9.5): judging a delivered block, resynchronisation,
playout and concealment. -/

namespace Sys2Proof.Machine

/-- The slot of a sequence: its number modulo 8 (R162). -/
def slotOf (seq : Byte) : Fin 8 := (seq.extractLsb' 0 3).toFin

/-- The copies a buffer holds of a sequence; none if its slot holds another sequence. -/
def PathBuf.copies (b : PathBuf) (seq : Byte) : List (LaneNo × Block) :=
  match b.slots.get (slotOf seq) with
  | some slot => if slot.seq = seq then slot.copies else []
  | none => []

/-- A block stored as a lane's copy, unless that lane's copy is already there (R162). -/
def PathBuf.store (b : PathBuf) (l : LaneNo) (seq : Byte) (block : Block) : PathBuf :=
  if (b.copies seq).any fun c => c.1 = l then b
  else { b with slots := b.slots.set (slotOf seq) (some ⟨seq, b.copies seq ++ [(l, block)]⟩) }

/-- Playout set to begin with sequence `s` at depth `depth`: q is s − depth + 1 (R161, R162). -/
def PathBuf.startAt (b : PathBuf) (seq : Byte) (depth : Nat) : PathBuf :=
  { b with
    running := true
    position := some (seq - BitVec.ofNat 8 depth + 1)
    startSeq := some seq }

/-- A resynchronisation: every slot emptied, q and the start sequence set afresh, the conceal run and
dropout reported cleared (R162). -/
def PathBuf.resync (b : PathBuf) (seq : Byte) (depth : Nat) : PathBuf :=
  { b.startAt seq depth with
    slots := Table.replicate 8 none, concealRun := 0, dropoutReported := false }

/-- Where a sequence lies against the playout position (R162). -/
inductive BlockPlace | inside | ahead | behind
  deriving DecidableEq, Repr

def blockPlace (seq q : Byte) : BlockPlace :=
  let d := (seq - q).toNat
  if d ≤ 7 then .inside else if d ≤ 127 then .ahead else .behind

/-- A concealment block from the last good block, by the conceal run already increased (R164). -/
def concealBlock (lastGood : Block) (run : Nat) : Block :=
  match run with
  | 1 => lastGood.map fun v => roundShift 10 (v * 512)
  | 2 => lastGood.map fun v => roundShift 10 (v * 256)
  | _ => zeroBlock

/-- The copy played at position q: the lead lane's, otherwise another lane's (R163 cases 1 and 2). -/
def chooseCopy (copies : List (LaneNo × Block)) (lead : Option LaneNo) :
    Option (LaneNo × Block) :=
  match copies.find? fun c => lead = some c.1 with
  | some c => some c
  | none => copies.head?

/-- The position lies before the start sequence: start − q, modulo 256, in 1..7 (R163 case 3). -/
def beforeStart (b : PathBuf) (q : Byte) : Bool :=
  match b.startSeq with
  | some start => decide (1 ≤ (start - q).toNat) && decide ((start - q).toNat ≤ 7)
  | none => false

namespace State

/-- A block a lane passes on is judged by its port's Path Buffer (R161, R162). `isNew` tells a new
block from a ROBUST repeat: only a new block counts as late. -/
def passBlock (s : State) (l : LaneNo) (isNew : Bool) (seq : Byte) (block : Block) : State :=
  match (s.lane l).boundPort.bind fun p => (s.port p).binding with
  | none => s
  | some bind =>
    if !(s.lane l).state.delivers then s
    else
      let b := s.buffer bind.buffer
      match b.position with
      | some q =>
        if b.running then
          match blockPlace seq q with
          | .behind =>
            if isNew then s.modLane l fun x => { x with lateBlocks := addSat 255 x.lateBlocks 1 }
            else s
          | .ahead =>
            (s.modLane l fun x => { x with slips := addSat 255 x.slips 1 }).modBuffer bind.buffer
              fun b => (b.resync seq bind.depth).store l seq block
          | .inside => s.modBuffer bind.buffer fun b => b.store l seq block
        else s.modBuffer bind.buffer fun b => (b.startAt seq bind.depth).store l seq block
      | none => s.modBuffer bind.buffer fun b => (b.startAt seq bind.depth).store l seq block

/-- A concealment block is formed; at conceal run 8, with a bound lane LIVE and none reported yet,
PORT-DROPOUT is queued (R164). -/
def conceal (s : State) (p : PortNo) (k : BufNo) : State :=
  let run := addSat 255 (s.buffer k).concealRun 1
  let s1 := s.modBuffer k fun b =>
    { b with concealRun := run, presented := concealBlock b.lastGood run }
  if run = 8 ∧ s.linkPresent p = true ∧ (s.buffer k).dropoutReported = false then
    (s1.modBuffer k fun b => { b with dropoutReported := true }).report (.portDropout p s.time)
  else s1

/-- A copy is played: it becomes the last good block, the conceal run and dropout reported clear, and a
change of the lane played is a path switch (R163, R164). -/
def playCopy (s : State) (k : BufNo) (l : LaneNo) (block : Block) : State :=
  let switched := match (s.buffer k).lastLane with
    | some last => decide (last ≠ l)
    | none => false
  let s1 := s.modBuffer k fun b =>
    { b with
      lastGood := block, lastLane := some l, concealRun := 0, dropoutReported := false
      presented := block }
  if switched then s1.modLane l fun x => { x with pathSwitches := addSat 255 x.pathSwitches 1 }
  else s1

/-- One Path Buffer at a station frame boundary: RUNNING it plays position q, empties its slot and
advances; STOPPED it presents zeros (R161, R163). -/
def playBuffer (s : State) (k : BufNo) : State :=
  let b := s.buffer k
  match b.owner, b.running, b.position with
  | some p, true, some q =>
    let lead := (s.port p).binding.bind LaneBinding.lead
    let s1 :=
      match chooseCopy (b.copies q) lead with
      | some (l, block) => s.playCopy k l block
      | none =>
        if beforeStart b q then s.modBuffer k fun b => { b with presented := zeroBlock }
        else s.conceal p k
    s1.modBuffer k fun b =>
      { b with slots := b.slots.set (slotOf q) none, position := some (q + 1) }
  | _, _, _ => s.modBuffer k fun b => { b with presented := zeroBlock }

end State

end Sys2Proof.Machine
end

