-- ==== Sys2Proof/Machine/Lanes.lean ====
section
/-! DEFINITION. The receiving side of a lane (08 section 8.2), the run states (09 section 9.3), the
lanes' expiries, and the lane commands. -/

namespace Sys2Proof.Machine

/-! ## What a lane passes to the Health Monitor (R166) -/

/-- Errors without a syndrome: missing frames, or a profile mismatch. -/
def HealthRec.addErrors (n : Nat) (h : HealthRec) : HealthRec :=
  { h with errors := addSat 65535 h.errors n }

/-- A frame error with its syndrome. -/
def HealthRec.addSyndrome (v : BitVec 16) (h : HealthRec) : HealthRec :=
  { h with
    errors := addSat 65535 h.errors 1
    syndromeAnd := h.syndromeAnd &&& v
    syndromeOr := h.syndromeOr ||| v
    syndromesSeen := true }

namespace State

/-! ## Failed and accepted frames (R132 to R135) -/

/-- One frame error with its syndrome; the lane may be lost (R132, R153, R156). -/
def frameError (s : State) (l : LaneNo) (syndrome : BitVec 16) : State :=
  ((s.modHealthRec l (HealthRec.addSyndrome syndrome)).modLane l fun x =>
    { x with
      frameErrors := addSat 255 x.frameErrors 1
      silentCount := addSat 255 x.silentCount 1
      silenceTimer := if x.lastSeq.isSome then some x.state.silenceLength else none
      keepAliveCallRun := if x.state = .doze then 0 else x.keepAliveCallRun }).checkLoss l

/-- A frame that fails: its syndrome, or a free value where the document gives none (log entry 17). -/
def failedFrame (s : State) (l : LaneNo) (syndrome : Option (BitVec 16)) : State :=
  match syndrome with
  | some v => if v = 0 then s.useFree.frameError l s.freeSyndrome else s.frameError l v
  | none => s.useFree.frameError l s.freeSyndrome

/-- The missing frames a new sequence shows, or none if the frame is a duplicate or from behind
(R133). -/
def missingBefore? (x : Lane) (seq : Byte) : Option Nat :=
  match x.lastSeq with
  | none => some 0
  | some last =>
    let gap := (seq - last).toNat
    if gap = 0 ∨ 129 ≤ gap then none else some (gap - 1 - x.silentCount)

/-- A frame is accepted for sequence and silence (R133). -/
def acceptFrame (s : State) (l : LaneNo) (seq : Byte) (missing : Nat) : State :=
  (s.modHealthRec l fun h => { h.addErrors missing with framesAccepted := true }).modLane l fun x =>
    { x with
      lastSeq := some seq
      silentCount := 0
      silenceTimer := some x.state.silenceLength
      missingFrames := addSat 255 x.missingFrames missing }

/-- Audio content that does not fit the profile counts as a frame error without a syndrome (R135,
R156). -/
def countMismatch (s : State) (l : LaneNo) : State :=
  (s.modHealthRec l (HealthRec.addErrors 1)).modLane l fun x =>
    { x with frameErrors := addSat 255 x.frameErrors 1 }

/-! ## The run logic (R154 to R157) -/

/-- The lane's remote call is set as a RUN word says; where the port's remote call appears with it,
REMOTE-CALL is queued (R154). -/
def setRemoteCall (s : State) (l : LaneNo) (call : Bool) : State :=
  let s1 := s.modLane l fun x => { x with remoteCall := call }
  match (s.lane l).boundPort with
  | some p => if !s.portRemoteCall p && s1.portRemoteCall p then s1.report (.remoteCall p l) else s1
  | none => s1

/-- The blocks of a frame whose audio fits the profile go to the Path Buffer, the new block first
(R135, R162). -/
def passAudio (s : State) (l : LaneNo) (seq : Byte) (audio : LaneAudio) : State :=
  match (s.lane l).profile, audio with
  | some .tight, .one new => s.passBlock l true seq new
  | some .robust, .two new repeated => (s.passBlock l true seq new).passBlock l false (seq - 2) repeated
  | _, _ => s

/-- The lane may not doze: its port has a local call or an entry holding a TALK claim (R155). -/
def keepsAwake (s : State) (l : LaneNo) : Bool :=
  let x := s.lane l
  x.localCall || x.talkClaim || x.boundPort.any fun p => s.localCallOf p || s.talkClaimOf p

/-- A RUN word judged in LIVE (R154, R155). -/
def judgeLiveWord (s : State) (l : LaneNo) (call dozeReq : Bool) : State :=
  let s1 := s.setRemoteCall l call
  if dozeReq && !call && !s1.keepsAwake l then
    (s1.changeLaneState l .dozeHold).modLane l fun x => { x with dozeRun := 1 }
  else s1

/-- A RUN word judged in DOZE-HOLD (R154 to R156). -/
def judgeHoldWord (s : State) (l : LaneNo) (call dozeReq : Bool) : State :=
  let s1 := s.setRemoteCall l call
  if dozeReq && !call && !s1.keepsAwake l then
    let s2 := s1.modLane l fun x => { x with dozeRun := addSat 500 x.dozeRun 1 }
    if 500 ≤ (s2.lane l).dozeRun then s2.enterDoze l true else s2
  else s1.returnToLive l

/-- A remote wake from DOZE: the WAKE latch, and LIVE with cause REMOTE (R156). -/
def remoteWake (s : State) (l : LaneNo) : State :=
  (s.modLane l fun x => { x with wakeLatch := true }).enterLive l .remote

/-- A keep-alive in DOZE: two in a row with CALL wake the lane and set its remote call, which REMOTE-CALL
then reports (R156). -/
def judgeKeepAlive (s : State) (l : LaneNo) (call : Bool) : State :=
  let run := if call then addSat 2 (s.lane l).keepAliveCallRun 1 else 0
  let s1 := s.modLane l fun x => { x with keepAliveCallRun := run }
  if run = 2 then (s1.remoteWake l).setRemoteCall l true else s1

/-- The audio content fits the lane's profile. -/
def audioFits (x : Lane) (audio : LaneAudio) : Bool :=
  match x.profile, audio with
  | some .tight, .one _ | some .robust, .two _ _ => true
  | _, _ => false

/-- The blocks of a frame that carries a RUN word are passed on; those of any other frame are not (log
entry 22). -/
def passIfRun (s : State) (l : LaneNo) (seq : Byte) (word : LaneWord) (audio : LaneAudio) : State :=
  match word with
  | .run .. => s.passAudio l seq audio
  | _ => s

/-- An accepted frame in a run state (R135, R154 to R157). In LIVE and DOZE-HOLD its blocks are passed on before
its RUN word is judged. DESIGN CHOICE, log entry 51. -/
def judgeRunFrame (s : State) (l : LaneNo) (seq : Byte) (word : LaneWord) (audio : LaneAudio) :
    State :=
  let x := s.lane l
  let fits := audioFits x audio
  let s1 := if audio ≠ .short ∧ fits = false then s.countMismatch l else s
  match x.state with
  | .live =>
    let s2 := s1.passIfRun l seq word audio
    match word with
    | .run call dozeReq _ _ => s2.judgeLiveWord l call dozeReq
    | _ => s2
  | .dozeHold =>
    let s2 := s1.passIfRun l seq word audio
    match word with
    | .run call dozeReq _ _ => s2.judgeHoldWord l call dozeReq
    | _ => s2
  | .waking =>
    let s2 := if fits then (s1.enterLive l .woken).passIfRun l seq word audio else s1
    match word with
    | .run call _ _ _ => s2.setRemoteCall l call
    | _ => s2
  | .doze =>
    if fits then (s1.remoteWake l).passIfRun l seq word audio
    else if audio ≠ .short then s1.modLane l fun x => { x with keepAliveCallRun := 0 }
    else
      match word with
      | .run call _ _ _ => s1.judgeKeepAlive l call
      | _ => s1
  | .off | .seek | .offer | .pages | .barred => s1

/-- The control word of an accepted frame goes where the lane state sends it; a kind the state does not
use is ignored (R135, R137 to R142). -/
def judgeFrame (s : State) (l : LaneNo) (seq : Byte) (word : LaneWord) (audio : LaneAudio) : State :=
  match (s.lane l).state, word with
  | .seek, .offer o _ => s.firstOffer l o
  | .offer, .offer o ack => s.judgeOffer l o ack
  | .offer, .page code toggle echo payload => s.pageInOffer l code toggle echo payload
  | .pages, .page code toggle echo payload => s.judgePage l code toggle echo payload
  | .pages, .offer _ _ => s.handshakeError l
  | .seek, _ | .offer, _ | .pages, _ | .off, _ | .barred, _ => s
  | .live, w | .dozeHold, w | .doze, w | .waking, w => s.judgeRunFrame l seq w audio

/-- A lane frame as it ends (R132, R133, R135), and the frame a following lane sends for it (R131; log
entry 21). -/
def receiveFrame (s : State) (l : LaneNo) (bytes : List Byte) : State :=
  let s1 :=
    match receiveLaneFrame bytes with
    | .failed syndrome => s.failedFrame l syndrome
    | .good seq word audio =>
      match missingBefore? (s.lane l) seq with
      | none => s
      | some missing => (s.acceptFrame l seq missing).judgeFrame l seq word audio
  s1.sendIfFollowing l

end State

/-- LANE_FRAME_RECEIVED (R132 to R135); ignored in OFF and BARRED. -/
def execLaneFrameReceived (l : LaneNo) (bytes : List Byte) (s : State) :
    Host.Outcome State Fault Refusal :=
  onEvent s fun s =>
    match (s.lane l).state with
    | .off | .barred => s
    | _ => s.receiveFrame l bytes

/-! ## Expiries -/

/-- SILENCE_EXPIRY (R134): one missing frame; the silent count rises and may lose the lane; a following
lane sends a frame. -/
def execSilenceExpiry (l : LaneNo) (s : State) : Host.Outcome State Fault Refusal :=
  onEvent s fun s =>
    if (s.lane l).silenceTimer = some 0 then
      (((s.modHealthRec l (HealthRec.addErrors 1)).modLane l fun x =>
        { x with
          missingFrames := addSat 255 x.missingFrames 1
          silentCount := addSat 255 x.silentCount 1
          silenceTimer := some x.state.silencePeriod
          keepAliveCallRun := if x.state = .doze then 0 else x.keepAliveCallRun }).checkLoss
        l).sendIfFollowing l
    else s

/-- HANDSHAKE_TIMEOUT (R141): the progress count has reached 250 in OFFER or PAGES. -/
def execHandshakeTimeout (l : LaneNo) (s : State) : Host.Outcome State Fault Refusal :=
  onEvent s fun s =>
    let x := s.lane l
    if (x.state = .offer ∨ x.state = .pages) ∧ 250 ≤ x.progress then s.handshakeError l else s

/-- WAKE_COUNT_EXPIRY (R157): the wake count has reached 2000 without an answer. -/
def execWakeCountExpiry (l : LaneNo) (s : State) : Host.Outcome State Fault Refusal :=
  onEvent s fun s =>
    let x := s.lane l
    if x.state = .waking ∧ 2000 ≤ x.wakeCount then
      (s.report (.wakeUnanswered l x.boundPort)).enterDoze l false
    else s

/-- BARRED_COUNT_EXPIRY (R151): the BARRED count has reached 0. -/
def execBarredCountExpiry (l : LaneNo) (s : State) : Host.Outcome State Fault Refusal :=
  onEvent s fun s =>
    let x := s.lane l
    if x.state = .barred ∧ x.barredCount = 0 then s.enterSeek l else s

/-! ## Commands -/

/-- STATION-ID-SET (R136). -/
def execStationIdSet (tag : Byte) (identity : Ident) (s : State) :
    Host.Outcome State Fault Refusal :=
  onCommand s fun s => { s with stationId := identity }.reply tag Kind.stationIdSet .ok

/-- LANE-SET (R149, R150). -/
def execLaneSet (tag lane enable preference : Byte) (s : State) :
    Host.Outcome State Fault Refusal :=
  onCommand s fun s =>
    match number? 24 lane, onOff? enable, rolePref? preference with
    | some l, some on, some pref =>
      let x := s.lane l
      let s1 := (s.reply tag Kind.laneSet .ok).modLane l fun x =>
        { x with enable := on, pref := pref }
      if on = x.enable then s1
      else if on then (if x.boundPort.isSome then s1.enterSeek l else s1)
      else if x.state = .off then s1
      else s1.enterOff l
    | _, _, _ => s.reply tag Kind.laneSet .badArg

/-- What LANE-GET reads of a lane (R160). -/
def Lane.reading (x : Lane) : LaneReading :=
  { state := x.state, boundPort := x.boundPort, enable := x.enable, pref := x.pref
    abilities := x.abilities, role := x.role, profile := x.profile, unitHeld := x.unitHeld
    consecutiveErrors := x.consecutiveErrors, barredCount := x.barredCount
    lost := x.lostLatch, wake := x.wakeLatch, roleFault := x.roleFaultLatch
    liveHeld := x.liveHeld, frameErrors := x.frameErrors, missingFrames := x.missingFrames
    lateBlocks := x.lateBlocks, slips := x.slips, pathSwitches := x.pathSwitches }

/-- What forming the LANE-GET reply leaves (R160). -/
def Lane.afterReading (x : Lane) : Lane :=
  { x with
    lostLatch := false, wakeLatch := false, roleFaultLatch := false
    liveHeld := x.state == .live
    frameErrors := 0, missingFrames := 0, lateBlocks := 0, slips := 0, pathSwitches := 0 }

/-- LANE-GET (R160). -/
def execLaneGet (tag lane : Byte) (s : State) : Host.Outcome State Fault Refusal :=
  onCommand s fun s =>
    match number? 24 lane with
    | some l =>
      (s.reply tag Kind.laneGet .ok (.lane (s.lane l).reading)).modLane l Lane.afterReading
    | none => s.reply tag Kind.laneGet .badArg

/-- LANE-RETUNE (R158). -/
def execLaneRetune (tag lane abilities : Byte) (s : State) : Host.Outcome State Fault Refusal :=
  onCommand s fun s =>
    match number? 24 lane, abilities? abilities with
    | some l, some set =>
      let retuned (s : State) : State := s.modLane l fun x => { x with abilities := set }
      match (s.lane l).state with
      | .off => (retuned s).reply tag Kind.laneRetune .ok
      | .doze => (retuned (s.reply tag Kind.laneRetune .ok)).enterSeek l
      | _ => s.reply tag Kind.laneRetune .notQuiet
    | _, _ => s.reply tag Kind.laneRetune .badArg

/-- LANE-WAKE (R158). -/
def execLaneWake (tag lane : Byte) (s : State) : Host.Outcome State Fault Refusal :=
  onCommand s fun s =>
    match number? 24 lane with
    | some l =>
      let s1 := s.reply tag Kind.laneWake .ok
      if (s.lane l).state = .doze then s1.enterWaking l else s1
    | none => s.reply tag Kind.laneWake .badArg

end Sys2Proof.Machine
end

