-- ==== Sys2Proof/Machine/Probe.lean ====
section
/-! DEFINITION. The Alignment Probe (05): requests, the stepped sweep, the ends of a probe, and its
rows of the table. -/

namespace Sys2Proof.Machine

/-- The first candidate of the coarse stage (R85). -/
def coarseCandidate (k : Nat) : Nat := 256 * k - 1

/-- The candidate of a stage at an index, given the results of the stages before (R85, R86). -/
def candidateOf (r : ProbeRun) (stage : ProbeStage) (index : Nat) : Nat :=
  match stage with
  | .coarse => coarseCandidate index
  | .medium => r.coarse.getD 0 + 16 * index - 256
  | .fine => r.medium.getD 0 + index - 16

/-- The stage and index of the round that follows: the next stage if this one has its result, the next
index otherwise (R85, R86). -/
def nextRound (r : ProbeRun) : ProbeStage × Nat :=
  match r.stage, r.coarse, r.medium with
  | .coarse, some _, _ => (.medium, 1)
  | .medium, _, some _ => (.fine, 1)
  | stage, _, _ => (stage, r.index + 1)

/-- The round that follows a gap (R83). -/
def ProbeRun.advance (r : ProbeRun) : ProbeRun :=
  let next := nextRound r
  { r with
    stage := next.1, index := next.2, candidate := candidateOf r next.1 next.2
    phase := .marker, passes := 0, seen := 0, rounds := r.rounds + 1 }

/-- The marker sample of the pass in progress: the level, alternating from positive, in MARKER, and 0
in GAP (R82). -/
def ProbeRun.marker (r : ProbeRun) : Sample :=
  match r.phase with
  | .marker => if r.passes % 2 = 0 then (r.level : Int) else -(r.level : Int)
  | .gap => 0

/-- The MARKER phase's last pass has been performed and its window is to be judged (R83, R84). -/
def ProbeRun.windowDone (r : ProbeRun) : Bool :=
  r.phase == .marker && decide (r.candidate + 16 ≤ r.passes)

/-- The gap's last pass has been performed (R83). -/
def ProbeRun.gapDone (r : ProbeRun) : Bool := r.phase == .gap && decide (4112 ≤ r.passes)

/-- One mix pass of a running probe: in the window, a return magnitude at or above the threshold counts
as seen, and the pass is counted (R83, R84). A phase whose end waits to be taken stays at its end. -/
def ProbeRun.pass (r : ProbeRun) (returned : Sample) : ProbeRun :=
  if r.windowDone || r.gapDone then r
  else
    let inWindow := r.phase == .marker && decide (r.candidate ≤ r.passes)
    { r with
      seen := if inWindow && decide (r.threshold ≤ returned.natAbs) then r.seen + 1 else r.seen
      passes := r.passes + 1 }

/-- A mix pass as the engine counts it: the running round, or the settle period (R83, R89). -/
def Probe.pass (e : Probe) (returned : PortNo → Sample) : Probe :=
  match e.engine with
  | .running => { e with run := e.run.map fun r => r.pass (returned r.returnSource) }
  | .settling => { e with settle := e.settle - 1 }
  | .idle => e

namespace State

/-- The slot of a port's cancel section is zero-filled, if it has one (R67, R73). -/
def zeroFillSlot (s : State) (p : PortNo) : State :=
  match (s.port p).cancel with
  | some c => s.modSlot c.slot fun k => { k with history := [] }
  | none => s

/-- The locked delay is written into the port's cancel section (R71, R87). -/
def writeDelay (s : State) (p : PortNo) (delay : Nat) : State :=
  s.modPort p fun x =>
    { x with cancel := x.cancel.map fun c => { c with lockedDelay := some delay } }

/-- The end of the running probe, one event (R88): the delay on LOCKED, the slot zero-filled, the
report, and SETTLING. -/
def endProbe (s : State) (result : ProbeResult) : State :=
  match s.probe.run with
  | none => s
  | some r =>
    let delay := if result = .locked then some r.candidate else none
    let s1 := match delay with
      | some d => s.writeDelay r.port d
      | none => s
    let s2 := s1.zeroFillSlot r.port
    let s3 := s2.modProbe fun e => { e with run := none, engine := .settling, settle := 4112 }
    s3.report
      (.probeResult r.port result delay (some (r.stage, r.candidate)) r.rounds s.time)

/-- The running probe ends ABORTED if it concerns the port as probed port or, where `asReturn`, as
return source (R90). -/
def abortProbe (s : State) (p : PortNo) (asReturn : Bool) : State :=
  match s.probe.run with
  | some r => if r.port = p ∨ (asReturn ∧ r.returnSource = p) then s.endProbe .aborted else s
  | none => s

/-- The report of a request that never ran (R77, R78, R80). -/
def reportNeverRan (s : State) (p : PortNo) : State :=
  s.report (.probeResult p .aborted none none 0 s.time)

/-- A queued port is removed with its report; a port not queued is left alone (R77, R78). -/
def unqueueProbe (s : State) (p : PortNo) : State :=
  if s.probe.queue.contains p then
    (s.modProbe fun e => { e with queue := e.queue.filter (· ≠ p) }).reportNeverRan p
  else s

/-- A lock state change passed to the probe: LOCKED to HOLDOVER ends a running probe with result CLOCK
(R91). A queue that may start now is taken by PROBE_START (R79). -/
def probeLockChange (s : State) (old new : LockState) : State :=
  if old = .locked ∧ new = .holdover then s.endProbe .clock else s

end State

/-- PROBE (R76): the checks in order, the settings, the queue. -/
def execProbe (tag port : Byte) (settings : Option (BitVec 24 × BitVec 24)) (s : State) :
    Host.Outcome State Fault Refusal :=
  onCommand s fun s =>
    let top := 8388607
    let clamped := match settings with
      | some x => !(inRange 0 top x.1.toNat && inRange 0 top x.2.toNat)
      | none => false
    let set (e : Probe) : Probe := match settings with
      | some x => { e with level := clampTo 0 top x.1.toNat, threshold := clampTo 0 top x.2.toNat }
      | none => e
    match numberOrNone? 64 port with
    | none => s.reply tag Kind.probe .badArg
    | some none => (s.modProbe set).reply tag Kind.probe (okOr clamped)
    | some (some p) =>
      if ((s.port p).cancel.bind CancelSection.returnSource).isNone then
        s.reply tag Kind.probe .wrongClass
      else if s.probe.queue.contains p || s.underProbe p then s.reply tag Kind.probe .duplicate
      else if 16 ≤ s.probe.queue.length then s.reply tag Kind.probe .noRoom
      else
        (s.modProbe fun e => { set e with queue := e.queue ++ [p] }).reply tag Kind.probe
          (okOr clamped)

/-- PROBE-CANCEL (R77). -/
def execProbeCancel (tag port : Byte) (s : State) : Host.Outcome State Fault Refusal :=
  onCommand s fun s =>
    match number? 64 port with
    | none => s.reply tag Kind.probeCancel .badArg
    | some p => ((s.reply tag Kind.probeCancel .ok).unqueueProbe p).abortProbe p false

/-- What PROBE-GET says of the running probe (R92). -/
def ProbeRun.reading (r : ProbeRun) : ProbeRunReading :=
  { port := r.port, returnSource := r.returnSource, level := r.level, threshold := r.threshold
    stage := r.stage, coarse := r.coarse, medium := r.medium, candidate := r.candidate
    phase := r.phase, passes := r.passes, seen := r.seen, rounds := r.rounds }

/-- PROBE-GET (R92). -/
def execProbeGet (tag : Byte) (s : State) : Host.Outcome State Fault Refusal :=
  onCommand s fun s =>
    let e := s.probe
    s.reply tag Kind.probeGet .ok
      (.probe
        { level := e.level, threshold := e.threshold, engine := e.engine
          run := if e.engine = .running then e.run.map ProbeRun.reading else none
          settle := if e.engine = .settling then some e.settle else none
          queue := e.queue })

/-- PROBE_START (R79 to R81): an IDLE engine in LOCKED or FREE takes the head of the queue; an isolated
port or return source turns it away with a report. -/
def execProbeStart (s : State) : Host.Outcome State Fault Refusal :=
  onEvent s fun s =>
    match s.probe.engine, s.probe.queue with
    | .idle, p :: rest =>
      if s.timing.lock = .locked ∨ s.timing.lock = .free then
        let s1 := s.modProbe fun e => { e with queue := rest }
        match (s.port p).cancel.bind CancelSection.returnSource with
        | some src =>
          if (s.port p).isolated || (s.port src).isolated then s1.reportNeverRan p
          else
            s1.modProbe fun e =>
              { e with
                engine := .running
                run := some
                  { port := p, returnSource := src, level := e.level, threshold := e.threshold } }
        | none => s1.reportNeverRan p
      else s
    | _, _ => s

/-- A window judged seen: the stage's result is recorded and the gap begins, or in FINE the probe locks
(R85 to R87). -/
def ProbeRun.markSeen (r : ProbeRun) : ProbeRun :=
  match r.stage with
  | .coarse => { r with coarse := some r.candidate, phase := .gap, passes := 0 }
  | .medium => { r with medium := some r.candidate, phase := .gap, passes := 0 }
  | .fine => r

/-- WINDOW_JUDGEMENT (R84 to R87): 12 or more of the 16 window passes seen; the last candidate of a
stage not seen ends the probe with NONE or UNSTABLE. -/
def execWindowJudgement (s : State) : Host.Outcome State Fault Refusal :=
  onEvent s fun s =>
    match s.probe.run with
    | some r =>
      if r.windowDone then
        if 12 ≤ r.seen then
          if r.stage = .fine then s.endProbe .locked
          else s.modProbe fun e => { e with run := some r.markSeen }
        else if 16 ≤ r.index then
          s.endProbe (if r.stage = .coarse then .noneSeen else .unstable)
        else s.modProbe fun e => { e with run := some { r with phase := .gap, passes := 0 } }
      else s
    | none => s

/-- GAP_EXPIRY (R83): the next round begins with the next candidate. -/
def execGapExpiry (s : State) : Host.Outcome State Fault Refusal :=
  onEvent s fun s =>
    match s.probe.run with
    | some r =>
      if r.gapDone then s.modProbe fun e => { e with run := some r.advance } else s
    | none => s

/-- SETTLE_EXPIRY (R89): at settle remaining 0 the engine becomes IDLE. -/
def execSettleExpiry (s : State) : Host.Outcome State Fault Refusal :=
  onEvent s fun s =>
    if s.probe.engine = .settling ∧ s.probe.settle = 0 then
      s.modProbe fun e => { e with engine := .idle }
    else s

end Sys2Proof.Machine
end

