-- ==== Sys2Proof/Machine/Clock.lean ====
section
/-! DEFINITION. The Station Timing Unit (01): judging the reference, the lock states, CLOCK-SET and
CLOCK-GET. -/

namespace Sys2Proof.Machine

/-- A reference period is good if no early edge was discarded in it and its edge comes no earlier than
99% and no later than 101% of the nominal period (R2). -/
def goodPeriod? (p : RefPeriod) : Option Int :=
  match p.earlyEdge, p.edge with
  | false, some offset => if -10000 ≤ offset ∧ offset ≤ 10000 then some offset else none
  | _, _ => none

/-- The last 64 good periods with one more (R5: a good period replaces the oldest of the 64). -/
def keepRecent (recent : List Int) (offset : Int) : List Int :=
  (recent ++ [offset]).drop (recent.length + 1 - 64)

namespace State

/-- A change of lock state: CLOCK-STATE with the station time of the first sample period that begins
after it, and the change passed to the Alignment Probe (R7). -/
def announceLock (s : State) (old : LockState) : State :=
  (s.report (.clockState old s.timing.lock (s.time + 1))).probeLockChange old s.timing.lock

/-- A judgement in ACQUIRE (R4). -/
def judgeAcquire (s : State) (good : Option Int) : State :=
  match good with
  | some offset =>
    let recent := keepRecent s.timing.recentGood offset
    if s.timing.goodRun + 1 < 64 then
      s.modTiming fun t => { t with goodRun := t.goodRun + 1, recentGood := recent }
    else
      (s.modTiming fun t =>
        { t with
          lock := .locked, source := .reference, held := some recent.sum
          goodRun := 0, badRun := 0, recentGood := recent }).announceLock .acquire
  | none => s.modTiming fun t => { t with goodRun := 0, recentGood := [] }

/-- A judgement in LOCKED (R5). -/
def judgeLocked (s : State) (good : Option Int) : State :=
  match good with
  | some offset =>
    let recent := keepRecent s.timing.recentGood offset
    s.modTiming fun t => { t with badRun := 0, held := some recent.sum, recentGood := recent }
  | none =>
    if s.timing.badRun + 1 < 8 then s.modTiming fun t => { t with badRun := t.badRun + 1 }
    else
      (s.modTiming fun t =>
        { t with
          lock := .holdover, source := .held, badRun := 0
          holdoverEntries := addSat 255 t.holdoverEntries 1 }).announceLock .locked

/-- A judgement in HOLDOVER (R6): a good period returns to ACQUIRE with good run 1, the clock HELD. -/
def judgeHoldover (s : State) (good : Option Int) : State :=
  match good with
  | some offset =>
    (s.modTiming fun t =>
      { t with lock := .acquire, goodRun := 1, recentGood := [offset] }).announceLock .holdover
  | none => s

end State

/-- REFERENCE_PERIOD_JUDGEMENT (R2, R4 to R6). While the selection is CLEARED no judgement is made. -/
def execReferencePeriodJudgement (p : RefPeriod) (s : State) : Host.Outcome State Fault Refusal :=
  onEvent s fun s =>
    if s.timing.selected then
      match s.timing.lock with
      | .free => s
      | .acquire => s.judgeAcquire (goodPeriod? p)
      | .locked => s.judgeLocked (goodPeriod? p)
      | .holdover => s.judgeHoldover (goodPeriod? p)
    else s

/-- CLOCK-SET REFERENCE (R3): in FREE the reference is selected and the unit enters ACQUIRE. -/
def execClockSetReference (tag : Byte) (s : State) : Host.Outcome State Fault Refusal :=
  onCommand s fun s =>
    let s1 := s.reply tag Kind.clockSet .ok
    if s.timing.lock = .free then
      (s1.modTiming fun t =>
        { t with selected := true, lock := .acquire, source := .internal, goodRun := 0
                 recentGood := [] }).announceLock .free
    else s1

/-- CLOCK-SET FREE (R3): from any other lock state the unit returns to FREE on INTERNAL. The held period
and the bad run go from LOCKED and HOLDOVER, the states for which R3 says so (log entry 42). -/
def execClockSetFree (tag : Byte) (s : State) : Host.Outcome State Fault Refusal :=
  onCommand s fun s =>
    let s1 := s.reply tag Kind.clockSet .ok
    if s.timing.lock = .free then s1
    else
      (s1.modTiming fun t =>
        { t with
          selected := false, lock := .free, source := .internal, goodRun := 0, recentGood := []
          held := if s.timing.lock = .acquire then t.held else none
          badRun := if s.timing.lock = .acquire then t.badRun else 0 }).announceLock s.timing.lock

/-- CLOCK-GET (R10): the unit's state; the holdover entries count then becomes 0. -/
def execClockGet (tag : Byte) (s : State) : Host.Outcome State Fault Refusal :=
  onCommand s fun s =>
    let t := s.timing
    (s.reply tag Kind.clockGet .ok
      (.clock
        { lock := t.lock, selected := t.selected, source := t.source, held := t.held
          goodRun := t.goodRun, badRun := t.badRun, holdoverEntries := t.holdoverEntries
          stationTime := t.stationTime })).modTiming fun t => { t with holdoverEntries := 0 }

end Sys2Proof.Machine
end

