-- ==== Sys2Proof/Machine/Crosspoint.lean ====
section
/-! DEFINITION. The claim operations on the Crosspoint Table (03 section 3.2), the host's crosspoint
commands (section 3.5) and the staging of scenes (section 3.8). -/

namespace Sys2Proof.Machine

/-- The largest level and the largest class among claims, each taken on its own (R27). -/
def maxLevel (claims : List Claim) : Nat := claims.foldl (fun m c => max m c.level) 0
def maxClass (claims : List Claim) : XpClass := claims.foldl (fun m c => max m c.cls) 0

/-- An entry with a new claim list and its maxima recomputed (R27). -/
def Entry.withClaims (e : Entry) (claims : List Claim) : Entry :=
  { e with claims := claims, level := maxLevel claims, cls := maxClass claims }

def Entry.hasOrigin (e : Entry) (o : Origin) : Bool := e.claims.any fun c => c.origin == o

/-- The outcome of a placement that succeeds, by the entry's state just after it (R29). -/
def placedOutcome : EntryState → PlaceOutcome
  | .live => .ok
  | .parked | .guarded => .parked

namespace State

/-- The parties that depend on the entries of a pair are informed after a claim operation on it: the
destination's Duck Unit, the lanes of the source (ON-AIR), and the lanes of both ports (TALK claims)
(R39). -/
def entryChanged (s : State) (src dst : PortNo) : State :=
  (((s.reassessDuck dst).refreshOnAir src).refreshTalkClaim src).refreshTalkClaim dst

/-- The entry of a pair gets a new claim list (R27). -/
def setClaims (s : State) (src dst : PortNo) (claims : List Claim) : State :=
  s.setInto dst <| (s.into dst).map fun e => if e.source = src then e.withClaims claims else e

/-- Placing a claim: the first case of R29 that applies. -/
def placeClaim (s : State) (src dst : PortNo) (origin : Origin) (level : Nat) (cls : XpClass) :
    State × PlaceOutcome :=
  let claim : Claim := ⟨origin, level, cls⟩
  if src = dst then (s, .self)
  else if (s.port src).cls = .unused ∨ (s.port dst).cls = .unused then (s, .refused)
  else
    match s.entry? src dst with
    | some e =>
      if e.hasOrigin origin then
        let claims := e.claims.map fun c => if c.origin = origin then claim else c
        ((s.setClaims src dst claims).entryChanged src dst, placedOutcome e.state)
      else if 8 ≤ e.claims.length then (s, .full)
      else ((s.setClaims src dst (e.claims ++ [claim])).entryChanged src dst, placedOutcome e.state)
    | none =>
      if 32 ≤ (s.into dst).length ∨ 1024 ≤ s.entryCount then (s, .full)
      else
        let st := s.entryState src dst
        let e : Entry := { source := src, claims := [claim], level := level, cls := cls, state := st }
        ((s.setInto dst (s.into dst ++ [e])).entryChanged src dst, placedOutcome st)

/-- Withdrawing a claim; the entry goes with its last claim (R30). -/
def withdrawClaim (s : State) (src dst : PortNo) (origin : Origin) : State :=
  match s.entry? src dst with
  | none => s
  | some e =>
    if e.hasOrigin origin then
      let left := e.claims.filter fun c => c.origin ≠ origin
      if left.isEmpty then
        (s.setInto dst ((s.into dst).filter fun x => x.source ≠ src)).entryChanged src dst
      else (s.setClaims src dst left).entryChanged src dst
    else s

/-- The level of one talk's claim of one pair changed; a pair without such a claim is left alone
(R31). -/
def changeClaimLevel (s : State) (id : TalkId) (level : Nat) (pair : PortNo × PortNo) : State :=
  match s.entry? pair.1 pair.2 with
  | none => s
  | some e =>
    if e.hasOrigin (.talk id) then
      let claims := e.claims.map fun c =>
        if c.origin = .talk id then { c with level := level } else c
      (s.setClaims pair.1 pair.2 claims).entryChanged pair.1 pair.2
    else s

/-- Changing the level of a talk's claims on a set of pairs (R31). -/
def changeLevels (s : State) (id : TalkId) (level : Nat) (pairs : List (PortNo × PortNo)) : State :=
  pairs.foldl (fun s pair => s.changeClaimLevel id level pair) s

/-- A job is put in the host position, where it waits until the writer takes it (R32). -/
def submitHost (s : State) (purpose : Purpose) (ops : List ClaimOp) : State :=
  s.modWriter fun w => { w with hostPos := some { purpose := purpose, ops := ops } }

/-- A job is put in the talk position (R32). -/
def submitTalk (s : State) (purpose : Purpose) (ops : List ClaimOp) : State :=
  s.modWriter fun w => { w with talkPos := some { purpose := purpose, ops := ops } }

/-- The job's operations left and outcomes so far are changed in the position it is served from. -/
def modJobServed (s : State) (f : Job → Job) : State :=
  s.modWriter fun w =>
    match w.state with
    | .servingHost => { w with hostPos := w.hostPos.map f }
    | .servingTalk | .committing => { w with talkPos := w.talkPos.map f }
    | .free => w

/-- The job the Table Writer is serving: the one in the position its state names (R32). -/
def jobServed? (s : State) : Option Job :=
  match s.writer.state with
  | .servingTalk => s.writer.talkPos
  | .servingHost => s.writer.hostPos
  | .free | .committing => none

/-- One claim operation performed, with the outcome a placement returns (R33). -/
def performOp (s : State) (op : ClaimOp) : State × Option PlaceResult :=
  match op with
  | .place src dst origin level cls =>
    let r := s.placeClaim src dst origin level cls
    (r.1, some ⟨src, dst, origin, r.2⟩)
  | .withdraw src dst origin => (s.withdrawClaim src dst origin, none)
  | .levelChange id level pairs => (s.changeLevels id level pairs, none)

/-- The next operation of the job in service is performed and leaves the job; a placement's outcome
joins the job's outcomes (R32, R33). -/
def serveOp (s : State) (op : ClaimOp) : State :=
  let r := s.performOp op
  r.1.modJobServed fun j => { j with ops := j.ops.drop 1, results := j.results ++ r.2.toList }

end State

/-! ## Host crosspoint commands (03 section 3.5) -/

/-- XP-SET (R40): BAD-ARG, WRONG-CLASS, BUSY; otherwise a host job of one FIXED placement. -/
def execXpSet (tag src dst : Byte) (level : Half) (cls : Byte) (s : State) :
    Host.Outcome State Fault Refusal :=
  onCommand s fun s =>
    match number? 64 src, number? 64 dst, number? 4 cls with
    | some a, some b, some c =>
      if a = b then s.reply tag Kind.xpSet .badArg
      else if (s.port a).cls = .unused ∨ (s.port b).cls = .unused then
        s.reply tag Kind.xpSet .wrongClass
      else if s.committing then s.reply tag Kind.xpSet .busy
      else
        (s.beginService tag Kind.xpSet (!inRange 0 4095 level.toNat)).submitHost (.xpSet a b)
          [.place a b .fixed (clampTo 0 4095 level.toNat) c]
    | _, _, _ => s.reply tag Kind.xpSet .badArg

/-- XP-CLEAR (R41): BAD-ARG, BUSY; otherwise a host job of one FIXED withdrawal. -/
def execXpClear (tag src dst : Byte) (s : State) : Host.Outcome State Fault Refusal :=
  onCommand s fun s =>
    match number? 64 src, number? 64 dst with
    | some a, some b =>
      if a = b then s.reply tag Kind.xpClear .badArg
      else if s.committing then s.reply tag Kind.xpClear .busy
      else
        (s.beginService tag Kind.xpClear).submitHost .xpClear [.withdraw a b .fixed]
    | _, _ => s.reply tag Kind.xpClear .badArg

/-- XP-LIST (R42): the number of entries and up to 4 of them from the start position. -/
def execXpList (tag dst start : Byte) (s : State) : Host.Outcome State Fault Refusal :=
  onCommand s fun s =>
    match number? 64 dst with
    | some d =>
      s.reply tag Kind.xpList .ok
        (.entries (s.into d).length (((s.into d).drop start.toNat).take 4))
    | none => s.reply tag Kind.xpList .badArg

/-! ## Scenes (03 section 3.8) -/

/-- SCENE-BEGIN and SCENE-ABANDON: the staging area is emptied unless a commit is in flight (R48). -/
def emptyStaging (tag kind : Byte) (s : State) : State :=
  if s.committing then s.reply tag kind .busy
  else (s.modWriter fun w => { w with staging := [] }).reply tag kind .ok

/-- SCENE-BEGIN (R48). -/
def execSceneBegin (tag : Byte) (s : State) : Host.Outcome State Fault Refusal :=
  onCommand s fun s => emptyStaging tag Kind.sceneBegin s

/-- SCENE-ABANDON (R48). -/
def execSceneAbandon (tag : Byte) (s : State) : Host.Outcome State Fault Refusal :=
  onCommand s fun s => emptyStaging tag Kind.sceneAbandon s

/-- A staged entry replaces the one of its pair in place, or is appended if fewer than 512 are staged;
`none` if there is no room (R49). -/
def stage (staging : List Staged) (e : Staged) : Option (List Staged) :=
  if staging.any fun x => x.src = e.src ∧ x.dst = e.dst then
    some (staging.map fun x => if x.src = e.src ∧ x.dst = e.dst then e else x)
  else if 512 ≤ staging.length then none
  else some (staging ++ [e])

/-- SCENE-ENTRY (R49). -/
def execSceneEntry (tag src dst : Byte) (level : Half) (cls : Byte) (s : State) :
    Host.Outcome State Fault Refusal :=
  onCommand s fun s =>
    match number? 64 src, number? 64 dst, number? 4 cls with
    | some a, some b, some c =>
      if s.committing then s.reply tag Kind.sceneEntry .busy
      else
        match stage s.writer.staging ⟨a, b, clampTo 0 4095 level.toNat, c⟩ with
        | some staging =>
          (s.modWriter fun w => { w with staging := staging }).reply tag Kind.sceneEntry
            (okOr (!inRange 0 4095 level.toNat))
        | none => s.reply tag Kind.sceneEntry .noRoom
    | _, _, _ => s.reply tag Kind.sceneEntry .badArg

/-- SCENE-COMMIT (R50): a host job, refused with BUSY while a commit is in flight. -/
def execSceneCommit (tag : Byte) (s : State) : Host.Outcome State Fault Refusal :=
  onCommand s fun s =>
    if s.committing then s.reply tag Kind.sceneCommit .busy
    else
      (s.beginService tag Kind.sceneCommit).submitHost .sceneCommit []

end Sys2Proof.Machine
end

