-- ==== Sys2Proof/Machine/Ports.lean ====
section
/-! DEFINITION. The Port Table's commands (02): PORT-SET, one row for each section, and PORT-GET. The
checks of each stand in the order of R14. -/

namespace Sys2Proof.Machine

namespace State

/-- A PORT-SET's result code. -/
def portSetReply (s : State) (tag : Byte) (code : ResultCode) : State :=
  s.reply tag Kind.portSet code

/-! ## Classes (R15, R16) -/

/-- The lowest-numbered free Path Buffer. -/
def freeBuffer? (s : State) : Option BufNo := allBuffers.find? fun b => (s.buffer b).owner.isNone

/-- The lowest-numbered free cancel slot. -/
def freeSlot? (s : State) : Option SlotNo := allSlots.find? fun k => (s.slot k).owner.isNone

/-- A port's cancel section is removed and its slot freed (R67). -/
def removeCancel (s : State) (p : PortNo) : State :=
  match (s.port p).cancel with
  | some c =>
    (s.modSlot c.slot fun k => { k with owner := none }).modPort p fun x => { x with cancel := none }
  | none => s

/-- What a port loses on leaving its class: the panel binding, or the lane binding with its Path
Buffer (R16). -/
def leaveClass (s : State) (p : PortNo) : State :=
  let s1 :=
    match (s.port p).cls, (s.port p).binding with
    | .remote, some b => s.modBuffer b.buffer fun _ => {}
    | _, _ => s
  s1.modPort p fun x => { x with panel := none, binding := none }

/-- What a port gains on entering its class: a lane binding with the lowest free Path Buffer for
REMOTE, a reset record and Duck Unit for UNUSED (R16). -/
def enterClass (s : State) (p : PortNo) (cls : PortClass) : State :=
  match cls with
  | .remote =>
    match s.freeBuffer? with
    | some b =>
      (s.modBuffer b fun _ => { owner := some p }).modPort p fun x =>
        { x with cls := .remote, binding := some { buffer := b } }
    | none => s
  | .unused =>
    { (s.removeCancel p).modPort p fun _ => {} with ducks := s.ducks.set p {} }
  | cls => s.modPort p fun x => { x with cls := cls }

/-- One other port loses this port as its return source: a running probe of it ends ABORTED, a queued
one is removed with its report (R21). -/
def loseReturn (s : State) (gone p : PortNo) : State :=
  if p ≠ gone ∧ (s.port p).cancel.bind CancelSection.returnSource = some gone then
    ((s.modPort p fun x =>
      { x with cancel := x.cancel.map fun c => { c with returnSource := none } }).abortProbe p
        false).unqueueProbe p
  else s

/-- An accepted change of class (R16). -/
def changeClass (s : State) (p : PortNo) (cls : PortClass) : State :=
  let s1 := (s.leaveClass p).enterClass p cls
  if (s.port p).cls = .feed then allPorts.foldl (fun s q => s.loseReturn p q) s1 else s1

end State

/-- PORT-SET CLASS (R15, R16). -/
def execPortSetClass (tag port cls : Byte) (s : State) : Host.Outcome State Fault Refusal :=
  onCommand s fun s =>
    match number? 64 port, portClass? cls with
    | some p, some c =>
      if c = (s.port p).cls then s.portSetReply tag .ok
      else if s.portInUse p then s.portSetReply tag .inUse
      else if c = .remote ∧ s.freeBuffer? = none then s.portSetReply tag .noRoom
      else (s.portSetReply tag .ok).changeClass p c
    | _, _ => s.portSetReply tag .badArg

/-- PORT-SET LEVELS (R17). -/
def execPortSetLevels (tag port : Byte) (trim master : Half) (s : State) :
    Host.Outcome State Fault Refusal :=
  onCommand s fun s =>
    match number? 64 port with
    | some p =>
      (s.modPort p fun x =>
        { x with trim := clampTo 0 4095 trim.toNat, master := clampTo 0 4095 master.toNat }
      ).portSetReply tag (okOr (!(inRange 0 4095 trim.toNat && inRange 0 4095 master.toNat)))
    | none => s.portSetReply tag .badArg

/-- PORT-SET ISOLATE (R18): a change re-states the port's entries, and ON aborts a probe on the port or
on a port whose return source it is. -/
def execPortSetIsolate (tag port onOff : Byte) (s : State) : Host.Outcome State Fault Refusal :=
  onCommand s fun s =>
    match number? 64 port, onOff? onOff with
    | some p, some isolate =>
      if (s.port p).cls = .unused then s.portSetReply tag .wrongClass
      else
        let s1 := s.portSetReply tag .ok
        if (s.port p).isolated = isolate then s1
        else
          let s2 := (s1.modPort p fun x => { x with isolated := isolate }).restatePort p
          if isolate then s2.abortProbe p true else s2
    | _, _ => s.portSetReply tag .badArg

namespace State

/-- A duck profile handed to a port's Duck Unit: in force at once in OPEN, where the trigger is
reassessed, pending in any other state (R19, R65). -/
def setProfile (s : State) (p : PortNo) (profile : DuckProfile) : State :=
  if (s.duck p).state = .opened then
    (s.modPort p fun x => { x with profile := profile, pendingProfile := none }).onDuck p
      duckReassessOpen
  else s.modPort p fun x => { x with pendingProfile := some profile }

end State

/-- PORT-SET DUCK (R19). -/
def execPortSetDuck (tag port threshold : Byte) (depth attack hold release : Half) (s : State) :
    Host.Outcome State Fault Refusal :=
  onCommand s fun s =>
    match number? 64 port, threshold? threshold with
    | some p, some t =>
      if (s.port p).cls = .unused then s.portSetReply tag .wrongClass
      else
        let profile : DuckProfile :=
          { threshold := t
            depth := clampTo 0 1024 depth.toNat
            attack := clampTo 0 4800 attack.toNat
            hold := clampTo 0 48000 hold.toNat
            release := clampTo 0 48000 release.toNat }
        let fits := inRange 0 1024 depth.toNat && inRange 0 4800 attack.toNat &&
          inRange 0 48000 hold.toNat && inRange 0 48000 release.toNat
        (s.setProfile p profile).portSetReply tag (okOr (!fits))
    | _, _ => s.portSetReply tag .badArg

namespace State

/-- A port with a cancel section gets a new level and return source; a change of return source aborts
its running probe, and NONE takes it from the probe queue (R20). -/
def changeCancel (s : State) (p : PortNo) (c : CancelSection) (level : Nat)
    (source : Option PortNo) : State :=
  let s1 := s.modPort p fun x =>
    { x with cancel := some { c with level := level, returnSource := source } }
  let s2 := if source = c.returnSource then s1 else s1.abortProbe p false
  if source.isNone then s2.unqueueProbe p else s2

/-- A port gets a cancel section on a slot, zero-filled and owned by it, with no locked delay (R20,
R67). -/
def newCancel (s : State) (p : PortNo) (k : SlotNo) (level : Nat) (source : Option PortNo) : State :=
  (s.modSlot k fun _ => { owner := some p }).modPort p fun x =>
    { x with cancel := some { slot := k, level := level, returnSource := source } }

end State

/-- PORT-SET CANCEL ON (R20). -/
def execPortSetCancelOn (tag port : Byte) (level : Half) (returnSource : Byte) (s : State) :
    Host.Outcome State Fault Refusal :=
  onCommand s fun s =>
    match number? 64 port, numberOrNone? 64 returnSource with
    | some p, some source =>
      let level' := clampTo 0 1024 level.toNat
      let code := okOr (!inRange 0 1024 level.toNat)
      if source = some p then s.portSetReply tag .badArg
      else if (s.port p).cls = .unused ∨ (source.any fun q => (s.port q).cls != .feed) = true then
        s.portSetReply tag .wrongClass
      else
        match (s.port p).cancel with
        | some c => (s.portSetReply tag code).changeCancel p c level' source
        | none =>
          match s.freeSlot? with
          | some k => (s.newCancel p k level' source).portSetReply tag code
          | none => s.portSetReply tag .noRoom
    | _, _ => s.portSetReply tag .badArg

/-- PORT-SET CANCEL OFF (R21). -/
def execPortSetCancelOff (tag port : Byte) (s : State) : Host.Outcome State Fault Refusal :=
  onCommand s fun s =>
    match number? 64 port with
    | some p =>
      let s1 := s.portSetReply tag .ok
      match (s.port p).cancel with
      | some _ => ((s1.removeCancel p).unqueueProbe p).abortProbe p false
      | none => s1
    | none => s.portSetReply tag .badArg

/-- PORT-SET PANEL (R24). -/
def execPortSetPanel (tag port line addr : Byte) (s : State) : Host.Outcome State Fault Refusal :=
  onCommand s fun s =>
    match number? 64 port, panelBinding? line addr with
    | some p, some panel =>
      let taken := allPorts.any fun q =>
        decide (q ≠ p) && (s.port q).cls == .panel && panel.isSome && (s.port q).panel == panel
      if (s.port p).cls ≠ .panel then s.portSetReply tag .wrongClass
      else if taken then s.portSetReply tag .duplicate
      else if s.talksFrom p then s.portSetReply tag .inUse
      else (s.modPort p fun x => { x with panel := panel }).portSetReply tag .ok
    | _, _ => s.portSetReply tag .badArg

namespace State

/-- A lane leaves a binding: to OFF, while the binding still names it, and then unbound (R25, R149). -/
def unbindLane (s : State) (l : LaneNo) : State :=
  (s.enterOff l).modLane l fun x => { x with boundPort := none }

/-- A lane becomes bound to a port: it takes the port's status, and if it is enabled it starts a fresh
handshake (R149). -/
def bindLane (s : State) (p : PortNo) (l : LaneNo) : State :=
  let s1 := s.modLane l fun x =>
    { x with
      boundPort := some p
      onAir := s.onAirOf p, talkClaim := s.talkClaimOf p, localCall := s.localCallOf p }
  if (s1.lane l).enable then s1.enterSeek l else s1

/-- The lane binding is written and the lanes that leave and join are told (R25): those that leave go
OFF first (log entry 36). -/
def rebindLanes (s : State) (p : PortNo) (b : LaneBinding) : State :=
  let old := (s.port p).boundLanes
  let new := b.primary.toList ++ b.backup.toList
  let s1 := (old.filter fun l => !new.contains l).foldl unbindLane s
  let s2 := s1.modPort p fun x => { x with binding := some b }
  (new.filter fun l => !old.contains l).foldl (fun s l => s.bindLane p l) s2

end State

/-- PORT-SET LANES (R25). -/
def execPortSetLanes (tag port primary backup : Byte) (identity : Option Ident) (depth : Byte)
    (s : State) : Host.Outcome State Fault Refusal :=
  onCommand s fun s =>
    match number? 64 port, numberOrNone? 24 primary, numberOrNone? 24 backup with
    | some p, some first, some second =>
      let taken := (first.toList ++ second.toList).any fun l =>
        (s.lane l).boundPort.any fun q => decide (q ≠ p)
      if second.isSome ∧ (first.isNone ∨ first = second) then s.portSetReply tag .badArg
      else
        match (s.port p).cls, (s.port p).binding with
        | .remote, some b =>
          if taken then s.portSetReply tag .inUse
          else
            (s.portSetReply tag (okOr (!inRange 2 8 depth.toNat))).rebindLanes p
              { b with
                primary := first, backup := second, expected := identity, lead := first
                depth := clampTo 2 8 depth.toNat }
        | _, _ => s.portSetReply tag .wrongClass
    | _, _, _ => s.portSetReply tag .badArg

/-- PORT-GET (R26): the whole record; the clip latch and the clip count are then clear and 0. -/
def execPortGet (tag port : Byte) (s : State) : Host.Outcome State Fault Refusal :=
  onCommand s fun s =>
    match number? 64 port with
    | some p =>
      (s.reply tag Kind.portGet .ok (.port (s.port p))).modPort p fun x =>
        { x with clipLatch := false, clipCount := 0 }
    | none => s.reply tag Kind.portGet .badArg

end Sys2Proof.Machine
end

