-- ==== Sys2Proof/Machine/Mix.lean ====
section
/-! DEFINITION. The mix pass (03 section 3.6) with the conditioned inputs (02 section 2.7) and the
Cancel Store (04 section 4.3), and the frame boundary (01 R9). -/

namespace Sys2Proof.Machine

/-! ## The Cancel Store's histories -/

/-- A history with the sample at a position replaced, in its one form: positions rising, no 0. -/
def recordSample (pos : Nat) (v : Sample) : List (Nat × Sample) → List (Nat × Sample)
  | [] => if v = 0 then [] else [(pos, v)]
  | (q, w) :: rest =>
    if q < pos then (q, w) :: recordSample pos v rest
    else
      let tail := if q = pos then rest else (q, w) :: rest
      if v = 0 then tail else (pos, v) :: tail

/-- The sample at a position; one not recorded since the last zero-fill reads 0 (R69). -/
def CancelSlot.read (k : CancelSlot) (pos : Nat) : Sample :=
  match k.history.find? fun x => x.1 = pos with
  | some x => x.2
  | none => 0

/-- The position of a station time: its low 12 bits (R68). -/
def slotPosition (t : BitVec 32) : Nat := t.toNat % 4096

namespace State

/-! ## Conditioned inputs (R22, R23) -/

/-- A port's raw sample: its audio interface channel, or its Path Buffer's sample at the frame phase
for a REMOTE port. -/
def rawSample (s : State) (inputs : Table 64 (BitVec 24)) (p : PortNo) : Sample :=
  match (s.port p).cls, (s.port p).binding with
  | .remote, some b => (s.buffer b.buffer).presented.getD s.timing.framePhase.val 0
  | .remote, none => 0
  | _, _ => (inputs.get p).toInt

/-- A port's conditioned input: the first case of R22 that applies. -/
def conditionedInput (s : State) (inputs : Table 64 (BitVec 24)) (p : PortNo) : Sample :=
  let x := s.port p
  if x.cls = .unused ∨ x.isolated = true then 0
  else
    match s.probe.run with
    | some r =>
      if r.port = p then r.marker else saturate (roundShift 10 (s.rawSample inputs p * x.trim))
    | none => saturate (roundShift 10 (s.rawSample inputs p * x.trim))

/-- Every port's conditioned input of the pass. -/
def conditionedInputs (s : State) (inputs : Table 64 (BitVec 24)) : Table 64 Sample :=
  Table.tabulate (s.conditionedInput inputs)

/-! ## Cancel (R68 to R70) -/

/-- Every allocated slot records its owner's conditioned input (R68). -/
def recordSlots (s : State) (x : Table 64 Sample) : State :=
  { s with cancel := s.cancel.map fun k =>
      match k.owner with
      | some p => { k with history := recordSample (slotPosition s.time) (x.get p) k.history }
      | none => k }

/-- A port's cancel term: while the cancel is active, the delayed sample scaled by the cancel level
(R69, R70). -/
def cancelTerm (s : State) (p : PortNo) : Int :=
  match (s.port p).cancel with
  | some c =>
    match c.lockedDelay with
    | some d =>
      if s.underProbe p then 0
      else
        roundShift 10
          ((s.slot c.slot).read (slotPosition (s.time - BitVec.ofNat 32 d)) * c.level)
    | none => 0
  | none => 0

/-! ## Terms and outputs (R44 to R46) -/

/-- The duck factor that applies to an entry: the destination's if its threshold is a class above the
entry's, otherwise 1024 (R44). -/
def entryFactor (s : State) (d : PortNo) (e : Entry) : Nat :=
  match (s.port d).profile.threshold with
  | some t => if e.cls < t then duckFactor (s.port d, s.duck d) else 1024
  | none => 1024

/-- The term of an entry: none unless it is LIVE (R44). -/
def entryTerm (s : State) (x : Table 64 Sample) (d : PortNo) (e : Entry) : Int :=
  if e.state = .live then
    roundShift 20 (x.get e.source * e.level * s.entryFactor d e)
  else 0

/-- A destination's accumulator: its terms' sum less its cancel term (R45). -/
def accumulator (s : State) (x : Table 64 Sample) (d : PortNo) : Int :=
  ((s.into d).map (s.entryTerm x d)).sum - s.cancelTerm d

/-- A destination's mix before saturation (R46). -/
def scaledMix (s : State) (x : Table 64 Sample) (d : PortNo) : Int :=
  roundShift 10 (s.accumulator x d * (s.port d).master)

/-- A port's output sample: 0 for an UNUSED or isolated port (R46). -/
def outputSample (s : State) (x : Table 64 Sample) (d : PortNo) : Sample :=
  if (s.port d).cls = .unused ∨ (s.port d).isolated = true then 0 else saturate (s.scaledMix x d)

/-- The pass clips a port: the saturation changes its output (R47). -/
def clips (s : State) (x : Table 64 Sample) (d : PortNo) : Bool :=
  !(decide ((s.port d).cls = .unused) || (s.port d).isolated) &&
    decide (saturate (s.scaledMix x d) ≠ s.scaledMix x d)

/-- One clip counted; CLIP where the latch was clear (R47). -/
def countClip (s : State) (d : PortNo) : State :=
  let s1 := s.modPort d fun x =>
    { x with clipLatch := true, clipCount := addSat 65535 x.clipCount 1 }
  if (s.port d).clipLatch then s1 else s1.report (.clip d s.time)

/-! ## The pass and what it advances -/

/-- The Mix Engine's outputs of a pass take their places. -/
def putOutputs (s : State) (x : Table 64 Sample) : State :=
  let y := Table.tabulate (s.outputSample x)
  { s with mix := { s.mix with outputs := y, framePasses := (y :: s.mix.framePasses).take 48 } }

/-- Every used port's Duck Unit advances by the pass (R58). -/
def advanceDucks (s : State) : State :=
  let after (p : PortNo) : DuckPort :=
    if (s.port p).cls = .unused then (s.port p, s.duck p)
    else duckAdvance (s.into p) (s.port p, s.duck p)
  { s with
    ports := Table.tabulate fun p => (after p).1
    ducks := Table.tabulate fun p => (after p).2 }

/-- The next sample period begins (R8, R9): station time and frame phase advance, a frame phase of 0
makes a frame boundary due, and the silence timers run by one period (log entries 4 and 5). -/
def nextPeriod (s : State) : State :=
  let phase := s.timing.framePhase + 1
  { s with
    timing := { s.timing with
      stationTime := s.timing.stationTime + 1
      framePhase := phase
      boundaryDue := s.timing.boundaryDue || phase == 0 }
    lanes := s.lanes.map fun x => { x with silenceTimer := x.silenceTimer.map (· - 1) } }

/-- One mix pass (R22, R44 to R47, R58, R68): every input of the pass is read as it stands at its
start. -/
def mixPass (s : State) (inputs : Table 64 (BitVec 24)) : State :=
  let x := s.conditionedInputs inputs
  let s1 := s.recordSlots x
  let s2 := (allPorts.filter (s1.clips x)).foldl countClip (s1.putOutputs x)
  s2.advanceDucks.modProbe fun e => e.pass x.get

end State

/-- MIX_PASS (R44): the pass of the sample period in progress, and the beginning of the next period
(log entry 4). -/
def execMixPass (inputs : Table 64 (BitVec 24)) (s : State) : Host.Outcome State Fault Refusal :=
  onEvent s fun s => (s.mixPass inputs).nextPeriod

/-! ## The frame boundary (R9) -/

namespace State

/-- The passes performed since the last boundary become the frame that has completed (R130). -/
def completeFrame (s : State) : State :=
  { s with mix := { s.mix with lastFrame := s.mix.framePasses.reverse, framePasses := [] } }

/-- The BARRED counts fall by one (R151). -/
def countBarred (s : State) : State :=
  { s with lanes := s.lanes.map fun x =>
      if x.state = .barred then { x with barredCount := x.barredCount - 1 } else x }

/-- One frame boundary: the lanes that send at it send, the BARRED counts fall, the Path Buffers play
(R9, R130, R131, R151, R163). -/
def frameBoundary (s : State) : State :=
  let s1 := (s.modTiming fun t => { t with boundaryDue := false }).completeFrame
  allBuffers.foldl playBuffer (allLanes.foldl sendAtBoundary s1.countBarred)

end State

/-- FRAME_BOUNDARY (R9): once in each frame, before the pass of frame phase 0 (log entry 4). -/
def execFrameBoundary (s : State) : Host.Outcome State Fault Refusal :=
  onEvent s fun s => if s.timing.boundaryDue then s.frameBoundary else s

end Sys2Proof.Machine
end

