-- ==== Sys2Proof/Machine/Talks.lean ====
section
/-! DEFINITION. The Talk Arbiter (07): key states and modes, beginning and ending talks, group edits,
the arbiter's choice of work, and its commands; with the Key Queue operations of 06 section 6.6. -/

namespace Sys2Proof.Machine

/-! ## Key Queues (R103 to R106) -/

/-- A record's size in bytes (R103). -/
def KeyRecord.size (r : KeyRecord) : Nat :=
  match r.action with
  | .level _ => 5
  | .press | .release => 4

/-- A queue with its records replaced: the counts follow (R103), and an empty queue has its overrun
latch cleared (R105, R106). -/
def KeyQueue.withRecords (q : KeyQueue) (records : List KeyRecord) : KeyQueue :=
  { q with
    records := records
    bytesUsed := (records.map KeyRecord.size).sum
    count := records.length
    overrun := q.overrun && !records.isEmpty }

/-- The record fits the free space (R104). -/
def KeyQueue.fits (q : KeyQueue) (r : KeyRecord) : Bool := decide (r.size ≤ 256 - q.bytesUsed)

/-- The head is removed (R105). -/
def KeyQueue.removeHead (q : KeyQueue) : KeyQueue :=
  { q.withRecords (q.records.drop 1) with headInService := false }

/-- A panel's records are removed, but for a head in service (R106). -/
def KeyQueue.purge (q : KeyQueue) (a : PanelAddr) : KeyQueue :=
  let others := fun r : KeyRecord => decide (r.addr ≠ a)
  if q.headInService then q.withRecords (q.records.take 1 ++ (q.records.drop 1).filter others)
  else q.withRecords (q.records.filter others)

/-! ## Key states and modes (R115, R116) -/

/-- What a PRESS or RELEASE record leads to. -/
inductive KeyVerdict
  /-- A begin; the key takes the state if the begin succeeds. -/
  | begins (st : KeyState)
  /-- An end with reason KEY. -/
  | ends (st : KeyState)
  /-- A change of state alone, or nothing. -/
  | moves (st : KeyState)
  deriving DecidableEq, Repr

/-- A PRESS by mode and state. -/
def judgePress (mode : KeyMode) (st : KeyState) : KeyVerdict :=
  match mode, st with
  | .momentary, .idle | .auto, .idle => .begins .held
  | .latching, .idle => .begins .latched
  | .latching, .latched | .auto, .latched => .ends .clearing
  | _, st => .moves st

/-- A RELEASE by mode and state; `short` says that an AUTO hold was a tap (R116). -/
def judgeRelease (mode : KeyMode) (st : KeyState) (short : Bool) : KeyVerdict :=
  match mode, st with
  | .auto, .held => if short then .moves .latched else .ends .idle
  | .momentary, .held | .latching, .held | .momentary, .latched => .ends .idle
  | _, .clearing => .moves .idle
  | _, st => .moves st

/-- A release is short: the long mark is clear and the stamps differ by less than 14,400 (R116). -/
def shortHold (longMark : Bool) (press release : BitVec 16) : Bool :=
  !longMark && decide ((release - press).toNat < 14400)

/-- The key's state changes; the long timer is dropped outside HELD (R116). -/
def KeyCell.moveTo (c : KeyCell) (st : KeyState) : KeyCell :=
  { c with state := st, timer := if st = .held then c.timer else none }

/-- The state of a key whose talk ends by anything but the key (R123). -/
def KeyState.afterForcedEnd : KeyState → KeyState
  | .held => .clearing
  | .latched => .idle
  | .clearing => .clearing
  | .idle => .idle

namespace State

/-! ## Ending a talk (R122) -/

/-- The lanes of these ports are told their local call indication (R121). -/
def refreshCalls (s : State) (ports : List PortNo) : State := ports.foldl refreshLocalCall s

/-- An end decided: an ACTIVE talk becomes ENDING and joins the pending end list, a BEGINNING one keeps
the first reason, an ENDING one is unchanged (R122; log entry 40). -/
def decideEnd (s : State) (id : TalkId) (reason : EndReason) : State :=
  match s.talk? id with
  | none => s
  | some t =>
    match t.phase with
    | .active =>
      let s1 := s.modTalk id fun t => { t with phase := .ending, endReason := some reason }
      let s2 := s1.modArbiter fun a => { a with pendingEnds := a.pendingEnds ++ [id] }
      if t.function = .call then s2.refreshCalls t.targets else s2
    | .beginning =>
      s.modTalk id fun t => { t with endRequested := some (t.endRequested.getD reason) }
    | .ending => s

/-- A talk ended by the host, with the state of the key that made it (R123, R128). -/
def dropTalk (s : State) (t : Talk) : State :=
  let s1 := s.decideEnd t.id .host
  match t.maker with
  | .key k => s1.modKey k fun c => c.moveTo c.state.afterForcedEnd
  | .host _ => s1

/-- The end job of the first talk on the pending end list is issued (R113 step 2, R122). -/
def issueEnd (s : State) : State :=
  match s.arbiter.pendingEnds with
  | [] => s
  | id :: rest =>
    let pairs := ((s.talk? id).map Talk.pairs).getD []
    (s.modArbiter fun a =>
      { a with pendingEnds := rest, jobInFlight := some (.endTalk id) }).submitTalk (.endTalk id)
      (pairs.map fun x => .withdraw x.1 x.2 (.talk id))

/-! ## Beginning a talk (R118 to R121) -/

/-- The target ports, in target order (R118). -/
def targetPorts (s : State) : Target → List PortNo
  | .port p => [p]
  | .group g => s.group g

/-- The lowest free talk identifier, if the list holds fewer than 128 talks (R118). -/
def talkRoom? (s : State) : Option TalkId :=
  if 128 ≤ s.arbiter.talks.length then none
  else allTalkIds.find? fun id => (s.talk? id).isNone

/-- Some key of a panel has function TALK and the given port as its target (R120). -/
def panelTalksTo (s : State) (l : LineNo) (a : PanelAddr) (p : PortNo) : Bool :=
  allKeys.any fun k =>
    let e := (s.key ⟨l, a, k⟩).entry
    e.function == .talk && e.target == some (.port p)

/-- The outcome of a call on one target port (R120). -/
def callOutcome (s : State) (caller p : PortNo) : PlaceOutcome :=
  if p = caller then .self
  else
    match (s.port p).cls, (s.port p).panel with
    | .panel, some (l, a) => if s.panelTalksTo l a caller then .ok else .refused
    | .remote, _ => .ok
    | _, _ => .refused

/-- The pair of ports a talk connects for one target (R119). -/
def talkPair (f : KeyFunction) (talking p : PortNo) : PortNo × PortNo :=
  if f = .listen then (p, talking) else (talking, p)

/-- TALK-BEGIN (R119). -/
def reportBegin (s : State) (id : TalkId) : State :=
  match s.talk? id with
  | some t => s.report (.talkBegin t.id t.maker t.function t.target (t.outcomes.getD []))
  | none => s

/-- A talk is begun: its record is made, its REMOTE ports are woken, and its job is issued; a CALL talk
becomes ACTIVE at once (R118 to R121). -/
def createTalk (s : State) (id : TalkId) (maker : Maker) (f : KeyFunction) (talking : PortNo)
    (target : Target) (level : Nat) (cls : XpClass) : State :=
  let targets := s.targetPorts target
  let pairs := if f = .call then [] else targets.map (talkPair f talking)
  let talk : Talk :=
    { id := id, maker := maker, function := f, talkingPort := talking, target := target
      targets := targets, level := level, cls := cls, startTime := s.time, pairs := pairs }
  let s1 := s.modArbiter fun a => { a with talks := a.talks ++ [talk] }
  let s2 := (talking :: targets).foldl wakePort s1
  if f = .call then
    let outcomes := targets.map (s.callOutcome talking)
    ((s2.modTalk id fun t =>
      { t with phase := .active, outcomes := some outcomes }).refreshCalls targets).reportBegin id
  else
    (s2.modArbiter fun a => { a with jobInFlight := some (.beginTalk id) }).submitTalk
      (.beginTalk id) (pairs.map fun x => .place x.1 x.2 (.talk id) level cls)

/-! ## Key records (R114 to R117) -/

/-- The record in service is removed from the head of its queue, and the arbiter's work is done
(R105, R114). -/
def finishRecord (s : State) (l : LineNo) : State :=
  (s.modKeyQueue l KeyQueue.removeHead).modArbiter fun a => { a with work := none }

/-- A key begin that fails is reported, and the record removed (R118). -/
def refuseKey (s : State) (k : KeyId) (reason : TalkRefusal) : State :=
  (s.report (.talkRefused k reason)).finishRecord k.line

/-- A key begin (R118): the checks in order; the key takes its state only if all pass. Press stamp, long mark
and long timer are set in AUTO mode alone (R116). DESIGN CHOICE, log entry 49. -/
def beginKey (s : State) (k : KeyId) (r : KeyRecord) (st : KeyState) : State :=
  let e := (s.key k).entry
  match e.function, e.target with
  | .noFunction, _ | _, none => s.finishRecord k.line
  | f, some target =>
    match s.panelPort? k.line k.addr with
    | none => s.refuseKey k .noPort
    | some own =>
      if (s.targetPorts target).isEmpty then s.refuseKey k .emptyGroup
      else
        match s.talkRoom? with
        | none => s.refuseKey k .listFull
        | some id =>
          let s1 := s.modKey k fun c =>
            if e.mode = .auto then
              { c.moveTo st with
                pressStamp := some r.arrival, longMark := false, timer := some s.time }
            else c.moveTo st
          let s2 := s1.createTalk id (.key k) f own target e.level e.cls
          if f = .call then s2.finishRecord k.line else s2

/-- A verdict carried out (R114). -/
def obeyVerdict (s : State) (k : KeyId) (r : KeyRecord) (v : KeyVerdict) : State :=
  match v with
  | .begins st => s.beginKey k r st
  | .ends st =>
    let s1 := s.modKey k fun c => c.moveTo st
    let s2 :=
      match s.keyTalk? k with
      | some t => s1.decideEnd t.id .key
      | none => s1
    s2.finishRecord k.line
  | .moves st => (s.modKey k fun c => c.moveTo st).finishRecord k.line

/-- A RELEASE of an AUTO key in HELD with no press stamp is judged by a free one (R116; log entry
16). -/
def takeRelease (s : State) (k : KeyId) (r : KeyRecord) : State :=
  let c := s.key k
  match c.pressStamp with
  | some stamp =>
    s.obeyVerdict k r
      (judgeRelease c.entry.mode c.state (shortHold c.longMark stamp r.arrival))
  | none =>
    let v := judgeRelease c.entry.mode c.state (shortHold c.longMark s.freePressStamp r.arrival)
    if c.entry.mode = .auto ∧ c.state = .held then s.useFree.obeyVerdict k r v
    else s.obeyVerdict k r v

/-- A LEVEL record (R117): a level change of an ACTIVE LISTEN talk, otherwise nothing. -/
def takeLevel (s : State) (k : KeyId) (step : Byte) : State :=
  match s.keyTalk? k with
  | some t =>
    if t.phase = .active ∧ t.function = .listen then
      let level := min 4095 (step.toNat * 16)
      ((s.modTalk t.id fun t => { t with level := level }).modArbiter fun a =>
        { a with jobInFlight := some (.levelStep t.id) }).submitTalk (.levelStep t.id)
        [.levelChange t.id level t.pairs]
    else s.finishRecord k.line
  | none => s.finishRecord k.line

/-- A key record taken into service and judged (R114). -/
def takeRecord (s : State) (l : LineNo) (r : KeyRecord) : State :=
  let k : KeyId := ⟨l, r.addr, r.key⟩
  let s1 := (s.modKeyQueue l fun q => { q with headInService := true }).modArbiter fun a =>
    { a with work := some (.record l r), lastLine := some l }
  match r.action with
  | .press => s1.obeyVerdict k r (judgePress (s.key k).entry.mode (s.key k).state)
  | .release => s1.takeRelease k r
  | .level step => s1.takeLevel k step

/-! ## Host work (R112, R127, R128) -/

/-- The old members a group edit drops and the new members it adds. -/
def dropped (old new : List PortNo) : List PortNo := old.filter fun p => !new.contains p
def added (old new : List PortNo) : List PortNo := new.filter fun p => !old.contains p

/-- The operations a group edit lists for one talk (R112). -/
def editOps (t : Talk) (old new : List PortNo) : List ClaimOp :=
  if t.function = .call then []
  else
    (dropped old new).map (fun p =>
      let x := talkPair t.function t.talkingPort p
      .withdraw x.1 x.2 (.talk t.id)) ++
    (added old new).map fun p =>
      let x := talkPair t.function t.talkingPort p
      .place x.1 x.2 (.talk t.id) t.level t.cls

/-- The ACTIVE talks that target a group, in the order of the active talk list. -/
def groupTalks (s : State) (g : GroupNo) : List Talk :=
  s.arbiter.talks.filter fun t => t.phase == .active && t.target == .group g

/-- GROUP-SET in service (R112): the member list is replaced; the talks concerned are edited by one host
job, or ended with reason HOST where the new list is empty (log entry 19). -/
def takeGroupSet (s : State) (g : GroupNo) (new : List PortNo) : State :=
  let old := s.group g
  let talks := s.groupTalks g
  let s1 := s.modArbiter fun a =>
    { a with
      groups := a.groups.set g new, work := some (.host (.groupSet g new))
      jobInFlight := some (.groupEdit g old) }
  if new.isEmpty then (talks.foldl dropTalk s1).submitHost (.groupEdit g old) []
  else s1.submitHost (.groupEdit g old) (talks.flatMap fun t => editOps t old new)

/-- TALK-FORCE in service (R127). -/
def takeTalkForce (s : State) (number : HostTalkNo) (f : KeyFunction) (source : PortNo)
    (target : Target) (level : Nat) (cls : XpClass) : State :=
  if (s.port source).cls = .unused ∨ (s.targetPorts target).isEmpty = true then
    s.endService fun _ => .wrongClass
  else if s.arbiter.talks.any fun t => t.maker = .host number then s.endService fun _ => .duplicate
  else
    match s.talkRoom? with
    | none => s.endService fun _ => .noRoom
    | some id =>
      let s1 := s.createTalk id (.host number) f source target level cls
      if f = .call then
        s1.endService okOr (.outcomes (((s1.talk? id).bind Talk.outcomes).getD []))
      else
        s1.modArbiter fun a =>
          { a with work := some (.host (.talkForce number f source target level cls)) }

/-- TALK-DROP in service (R128): a talk absent or ENDING already is answered OK, any other ends with
reason HOST and its end job is issued at once. -/
def takeTalkDrop (s : State) (w : HostWork) (t : Option Talk) : State :=
  match t with
  | none => s.endService fun _ => .ok
  | some t =>
    if t.phase = .ending then s.endService fun _ => .ok
    else ((s.dropTalk t).modArbiter fun a => { a with work := some (.host w) }).issueEnd

/-- A waiting host command is taken into service (R113 step 3). -/
def takeHost (s : State) (w : HostWork) : State :=
  let s1 := s.modArbiter fun a => { a with hostWaiting := none }
  match w with
  | .talkForce number f source target level cls =>
    s1.takeTalkForce number f source target level cls
  | .dropHostTalk number =>
    s1.takeTalkDrop w (s.arbiter.talks.find? fun t => t.maker = .host number)
  | .dropTalk id => s1.takeTalkDrop w (s.talk? id)
  | .groupSet g members => s1.takeGroupSet g members

/-! ## Completion of the arbiter's jobs -/

/-- The outcome a job returned for one target of a talk. -/
def outcomeIn (results : List PlaceResult) (t : Talk) (p : PortNo) : Option PlaceOutcome :=
  let x := talkPair t.function t.talkingPort p
  (results.find? fun r => r.src = x.1 ∧ r.dst = x.2 ∧ r.origin = .talk t.id).map
    PlaceResult.outcome

/-- The held notices are applied in order of arrival (R119). -/
def Talk.applyHeld (t : Talk) : Talk :=
  { t.heldNotices.foldl Machine.Talk.applyNotice t with heldNotices := [] }

/-- A begin job completes (R119). -/
def completeBegin (s : State) (id : TalkId) (results : List PlaceResult) : State :=
  let s1 := s.modTalk id fun t =>
    { Talk.applyHeld { t with outcomes := some (results.map PlaceResult.outcome) } with
      phase := .active }
  let s2 := s1.reportBegin id
  let s3 :=
    match s.arbiter.work with
    | some (.record l _) => s2.finishRecord l
    | some (.host _) =>
      (s2.endService okOr
        (.outcomes (((s2.talk? id).bind Machine.Talk.outcomes).getD []))).modArbiter
        fun a => { a with work := none }
    | none => s2
  match (s.talk? id).bind Machine.Talk.endRequested with
  | some reason => s3.decideEnd id reason
  | none => s3

/-- An end job completes (R122): the talk leaves the list and TALK-END is queued; a TALK-DROP it serves
is then answered (R128). -/
def completeEnd (s : State) (id : TalkId) : State :=
  let s1 := s.modArbiter fun a => { a with talks := a.talks.filter fun t => t.id ≠ id }
  let s2 :=
    match s.talk? id with
    | some t => s1.report (.talkEnd t.id t.maker (t.endReason.getD .key))
    | none => s1
  match s.arbiter.work with
  | some (.host _) =>
    (s2.endService fun _ => .ok).modArbiter fun a => { a with work := none }
  | _ => s2

/-- A talk after a group edit (R112): its targets, outcomes and pairs in new member order. -/
def editedTalk (s : State) (results : List PlaceResult) (new : List PortNo) (t : Talk) : Talk :=
  let outcome (p : PortNo) : PlaceOutcome :=
    if t.targets.contains p then (t.outcomeOn p).getD .refused
    else if t.function = .call then s.callOutcome t.talkingPort p
    else (outcomeIn results t p).getD .refused
  Talk.applyHeld
    { t with
      targets := new
      outcomes := some (new.map outcome)
      pairs := if t.function = .call then [] else new.map (talkPair t.function t.talkingPort) }

/-- A group edit completes (R112): the talks of the group are rebuilt unless the new list is empty, the
REMOTE members they gain are woken and the calls they make told to the lanes, and the reply is formed (log
entry 43). -/
def completeEdit (s : State) (g : GroupNo) (old : List PortNo) (results : List PlaceResult) :
    State :=
  let new := s.group g
  let s1 :=
    if new.isEmpty then s
    else
      let edited := s.modArbiter fun a =>
        { a with talks := a.talks.map fun t =>
            if t.target = .group g then s.editedTalk results new t else t }
      let woken :=
        if s.arbiter.talks.any fun t => t.target = .group g then
          (added old new).foldl wakePort edited
        else edited
      woken.refreshCalls (dropped old new ++ added old new)
  (s1.endService fun _ => .ok).modArbiter fun a => { a with work := none }

/-- A level step completes (R117): its record is removed. -/
def completeLevel (s : State) : State :=
  match s.arbiter.work with
  | some (.record l _) => s.finishRecord l
  | _ => s

/-! ## Panel notices and the echo (R124, R125) -/

/-- A panel has gone: its keys' talks end and all its keys come to rest (R124). -/
def panelGone (s : State) (l : LineNo) (a : PanelAddr) (reason : EndReason) : State :=
  let ofPanel (t : Talk) : Bool :=
    match t.maker with
    | .key k => decide (k.line = l) && decide (k.addr = a)
    | .host _ => false
  let s1 := (s.arbiter.talks.filter ofPanel).foldl (fun s t => s.decideEnd t.id reason) s
  allKeys.foldl
    (fun s k => s.modKey ⟨l, a, k⟩ fun c =>
      { c with state := .idle, pressStamp := none, longMark := false, timer := none })
    s1

/-- One key against an offered held-key set (R125). -/
def echoKey (held : BitVec 32) (l : LineNo) (a : PanelAddr) (s : State) (n : KeyNo) : State :=
  let k : KeyId := ⟨l, a, n⟩
  if held.getLsbD n.val then s
  else
    match (s.key k).state with
    | .held =>
      let s1 := s.modKey k fun c => c.moveTo .idle
      match s.keyTalk? k with
      | some t => s1.decideEnd t.id .echo
      | none => s1
    | .clearing => s.modKey k fun c => c.moveTo .idle
    | .idle | .latched => s

/-- An offered held-key set, key by key in ascending number (R125). -/
def echo (s : State) (l : LineNo) (a : PanelAddr) (held : BitVec 32) : State :=
  allKeys.foldl (echoKey held l a) s

/-! ## The arbiter's choice (R113) -/

/-- The arbiter may take host or key work: nothing in service, no job in flight, no end pending. -/
def arbiterFree (s : State) : Bool :=
  s.arbiter.work.isNone && s.arbiter.jobInFlight.isNone && s.arbiter.pendingEnds.isEmpty

/-- The line whose head is taken: the other than the last line served where both are offered; line 0
where none has been served yet (log entry 18). -/
def nextLine? (s : State) : Option LineNo :=
  match (s.keyQueue 0).records.isEmpty, (s.keyQueue 1).records.isEmpty with
  | true, true => none
  | false, true => some 0
  | true, false => some 1
  | false, false => if s.arbiter.lastLine = some 0 then some 1 else some 0

end State

/-- HOST_COMMAND_TAKE (R113). -/
def execHostCommandTake (s : State) : Host.Outcome State Fault Refusal :=
  onEvent s fun s =>
    match s.arbiterFree, s.arbiter.hostWaiting with
    | true, some w => s.takeHost w
    | _, _ => s

/-- KEY_RECORD_TAKE (R113, R114). -/
def execKeyRecordTake (s : State) : Host.Outcome State Fault Refusal :=
  onEvent s fun s =>
    if s.arbiterFree && s.arbiter.hostWaiting.isNone then
      match s.nextLine? with
      | some l =>
        match (s.keyQueue l).records with
        | r :: _ => s.takeRecord l r
        | [] => s
      | none => s
    else s

/-- END_JOB_ISSUE (R113, R122). -/
def execEndJobIssue (s : State) : Host.Outcome State Fault Refusal :=
  onEvent s fun s => if s.arbiter.jobInFlight.isNone then s.issueEnd else s

/-- LONG_TIMER_EXPIRY (R116): 65,536 sample periods after the record was taken. -/
def execLongTimerExpiry (k : KeyId) (s : State) : Host.Outcome State Fault Refusal :=
  onEvent s fun s =>
    match (s.key k).timer with
    | some t =>
      if 65536 ≤ (s.time - t).toNat then
        s.modKey k fun c =>
          { c with timer := none, longMark := c.longMark || c.state == .held }
      else s
    | none => s

/-! ## Commands -/

/-- KEY-SET (R109). -/
def execKeySet (tag line addr key function targetKind target : Byte) (level : Half)
    (cls mode : Byte) (s : State) : Host.Outcome State Fault Refusal :=
  onCommand s fun s =>
    match number? 2 line, number? 16 addr, number? 32 key, keyFunction? function,
      target? targetKind target, number? 4 cls, keyMode? mode with
    | some l, some a, some k, some f, some t, some c, some m =>
      let entry : KeyEntry :=
        { function := f, target := if f = .noFunction then none else some t
          level := clampTo 0 4095 level.toNat, cls := c, mode := m }
      (s.modKey ⟨l, a, k⟩ fun x => { x with entry := entry }).reply tag Kind.keySet
        (okOr (!inRange 0 4095 level.toNat))
    | _, _, _, _, _, _, _ => s.reply tag Kind.keySet .badArg

/-- KEY-GET (R110). -/
def execKeyGet (tag line addr key : Byte) (s : State) : Host.Outcome State Fault Refusal :=
  onCommand s fun s =>
    match number? 2 line, number? 16 addr, number? 32 key with
    | some l, some a, some k =>
      let id : KeyId := ⟨l, a, k⟩
      s.reply tag Kind.keyGet .ok
        (.key (s.key id).entry (s.key id).state ((s.keyTalk? id).map fun t => (t.id, t.phase))
          (s.lamp id))
    | _, _, _ => s.reply tag Kind.keyGet .badArg

/-- Port numbers from bytes, all in range. -/
def ports? : List Byte → Option (List PortNo)
  | [] => some []
  | b :: rest =>
    match number? 64 b, ports? rest with
    | some p, some ps => some (p :: ps)
    | _, _ => none

/-- GROUP-SET (R111): BAD-ARG, BUSY; otherwise it waits for the arbiter. -/
def execGroupSet (tag group : Byte) (members : List Byte) (s : State) :
    Host.Outcome State Fault Refusal :=
  onCommand s fun s =>
    match number? 64 group, ports? members with
    | some g, some ps =>
      if 16 < ps.length ∨ ¬ ps.Nodup then s.reply tag Kind.groupSet .badArg
      else if s.committing then s.reply tag Kind.groupSet .busy
      else
        (s.beginService tag Kind.groupSet).modArbiter fun a =>
          { a with hostWaiting := some (.groupSet g ps) }
    | _, _ => s.reply tag Kind.groupSet .badArg

/-- GROUP-GET (R111). -/
def execGroupGet (tag group : Byte) (s : State) : Host.Outcome State Fault Refusal :=
  onCommand s fun s =>
    match number? 64 group with
    | some g => s.reply tag Kind.groupGet .ok (.members (s.group g))
    | none => s.reply tag Kind.groupGet .badArg

/-- TALK-FORCE (R127): its first check here, the others when the arbiter takes it. -/
def execTalkForce (tag number function src targetKind target : Byte) (level : Half) (cls : Byte)
    (s : State) : Host.Outcome State Fault Refusal :=
  onCommand s fun s =>
    match number? 16 number, keyFunction? function, number? 64 src, target? targetKind target,
      number? 4 cls with
    | some n, some f, some p, some t, some c =>
      if f = .noFunction then s.reply tag Kind.talkForce .badArg
      else
        (s.beginService tag Kind.talkForce (!inRange 0 4095 level.toNat)).modArbiter fun a =>
          { a with hostWaiting := some (.talkForce n f p t (clampTo 0 4095 level.toNat) c) }
    | _, _, _, _, _ => s.reply tag Kind.talkForce .badArg

/-- TALK-DROP (R128): selector 0 a host talk number, selector 1 a talk identifier. -/
def execTalkDrop (tag selector number : Byte) (s : State) : Host.Outcome State Fault Refusal :=
  onCommand s fun s =>
    let waits (w : HostWork) : State :=
      (s.beginService tag Kind.talkDrop).modArbiter fun a => { a with hostWaiting := some w }
    match code? [false, true] selector, number? 16 number, number? 128 number with
    | some false, some n, _ => waits (.dropHostTalk n)
    | some true, _, some id => waits (.dropTalk id)
    | _, _, _ => s.reply tag Kind.talkDrop .badArg

/-- What TALK-LIST says of a talk (R129). -/
def Talk.reading (t : Talk) : TalkReading :=
  { id := t.id, maker := t.maker, phase := t.phase, function := t.function
    talkingPort := t.talkingPort, target := t.target, level := t.level, cls := t.cls
    startTime := t.startTime, outcomes := t.outcomes }

/-- TALK-LIST (R129). -/
def execTalkList (tag start : Byte) (s : State) : Host.Outcome State Fault Refusal :=
  onCommand s fun s =>
    s.reply tag Kind.talkList .ok
      (.talks s.arbiter.talks.length
        (((s.arbiter.talks.drop start.toNat).take 4).map Talk.reading))

end Sys2Proof.Machine
end

