-- ==== Sys2Proof/Machine/Panels.lean ====
section
/-! DEFINITION. The Panel Line Controllers (06): polls, answers and presence, the acceptance filter,
the storing of key records, tallies, and the commands of a panel line. -/

namespace Sys2Proof.Machine

/-! ## The acceptance filter (R101) -/

def actionBits : KeyAction → BitVec 2
  | .press => 1
  | .release => 2
  | .level _ => 3

def levelByte : KeyAction → BitVec 8
  | .level step => step
  | .press | .release => 0

/-- The 12-bit identifier of a key frame. -/
def frameIdentifier (a : PanelAddr) (f : KeyFrame) : BitVec 12 :=
  (BitVec.ofNat 4 a.val ++ BitVec.ofNat 5 f.key.val ++ actionBits f.action ++ boolBit f.layer :
    BitVec 12)

/-- The 20-bit word of a key frame. -/
def frameWord (a : PanelAddr) (f : KeyFrame) : BitVec 20 :=
  (levelByte f.action ++ frameIdentifier a f : BitVec 20)

/-- A code and a mask match where every bit with mask 0 equals the code's. -/
def filterMatch {w : Nat} (code mask v : BitVec w) : Bool := (v ^^^ code) &&& ~~~mask == 0

/-- The frame passes the line's filter. -/
def PanelLine.passes (pl : PanelLine) (a : PanelAddr) (f : KeyFrame) : Bool :=
  match pl.filterMode with
  | .single => filterMatch pl.singleCode pl.singleMask (frameWord a f)
  | .dual =>
    filterMatch pl.codeA pl.maskA (frameIdentifier a f) ||
      filterMatch pl.codeB pl.maskB (frameIdentifier a f)

/-- A panel record as an address is added or removed (R96). -/
def PanelRec.fresh : PanelRec := {}

/-- The address is on the poll list. -/
def PanelLine.listed (pl : PanelLine) (a : PanelAddr) : Bool := pl.pollList.getLsbD a.val

/-- The address polled next: the lowest listed above the last polled, otherwise the lowest listed
(R95). -/
def PanelLine.next? (pl : PanelLine) : Option PanelAddr :=
  match allAddrs.find? fun a => pl.listed a && pl.lastPolled.all fun last => decide (last < a) with
  | some a => some a
  | none => allAddrs.find? pl.listed

namespace State

/-- A key record is offered to the line's Key Queue: stored if it fits, otherwise refused with the
overrun latch, and KEY-OVERRUN where the latch was clear (R104). -/
def offerRecord (s : State) (l : LineNo) (r : KeyRecord) : State :=
  let q := s.keyQueue l
  if q.fits r then s.modKeyQueue l fun q => q.withRecords (q.records ++ [r])
  else
    let s1 := s.modKeyQueue l fun q => { q with overrun := true }
    if q.overrun then s1 else s1.report (.keyOverrun l r.arrival)

/-- One key frame of a good answer (R99 step 3). -/
def takeKeyFrame (l : LineNo) (a : PanelAddr) (s : State) (f : KeyFrame) : State :=
  if (s.line l).passes a f then
    s.offerRecord l { addr := a, key := f.key, action := f.action, arrival := s.time.setWidth 16 }
  else s

/-- A miss (R98). -/
def miss (s : State) (l : LineNo) (a : PanelAddr) : State :=
  let x := s.panel l a
  if x.present then
    if x.missRun + 1 < 4 then s.modPanel l a fun x => { x with missRun := x.missRun + 1 }
    else
      (((s.report (.panelPresence l a false)).modPanel l a fun x =>
        { x with present := false, missRun := 0, lastTally := none, lastHeld := none }).modKeyQueue
        l fun q => q.purge a).panelGone l a .panelAbsent
  else s

/-- A good answer settles presence (R98). -/
def settlePresence (s : State) (l : LineNo) (a : PanelAddr) : State :=
  let s1 := s.modPanel l a fun x => { x with present := true, missRun := 0 }
  if (s.panel l a).present then s1 else s1.report (.panelPresence l a true)

/-- The held-key set becomes the panel's last, and is offered to the Talk Arbiter if the queue holds no
record of the panel (R99 step 4, R100). -/
def offerHeld (s : State) (l : LineNo) (a : PanelAddr) (held : BitVec 32) : State :=
  let s1 := s.modPanel l a fun x => { x with lastHeld := some held }
  if (s.keyQueue l).records.any fun r => r.addr = a then s1 else s1.echo l a held

/-- A tally is sent if the lamps differ from the last tally or 32 polls have passed (R99 step 5). -/
def tally (s : State) (l : LineNo) (a : PanelAddr) : State :=
  let lamps := s.panelLamps l a
  let x := s.panel l a
  if x.lastTally ≠ some lamps ∨ 32 ≤ x.pollsSinceTally then
    (s.modPanel l a fun x => { x with lastTally := some lamps, pollsSinceTally := 0 }).modLine l
      fun pl => { pl with frameOut := some (.tally a lamps) }
  else s

/-- A good answer, in the order of R99. -/
def goodAnswer (s : State) (l : LineNo) (a : PanelAddr) (ans : Answer) : State :=
  ((ans.frames.foldl (takeKeyFrame l a) (s.settlePresence l a)).offerHeld l a ans.held).tally l a

/-- An erroneous answer: one answer error, and a miss (R97). -/
def badAnswer (s : State) (l : LineNo) (a : PanelAddr) : State :=
  (s.modLine l fun pl => { pl with answerErrors := addSat 255 pl.answerErrors 1 }).miss l a

/-- The transaction in progress ends with `f` on the address polled; what comes of a removed address
changes nothing (R95, R96), and without a poll in progress nothing is judged (R94). -/
def endPoll (s : State) (l : LineNo) (f : State → PanelAddr → State) : State :=
  match (s.line l).inProgress with
  | none => s
  | some poll =>
    let s1 := s.modLine l fun pl => { pl with inProgress := none }
    if poll.removed then s1 else f s1 poll.addr

end State

/-- POLL (R95): between transactions, the next listed address is polled. -/
def execPoll (l : LineNo) (s : State) : Host.Outcome State Fault Refusal :=
  onEvent s fun s =>
    match (s.line l).inProgress, (s.line l).next? with
    | none, some a =>
      (s.modPanel l a fun x => { x with pollsSinceTally := addSat 32 x.pollsSinceTally 1 }).modLine l
        fun pl =>
          { pl with
            lastPolled := some a, inProgress := some { addr := a }, frameOut := some (.poll a) }
    | _, _ => s

/-- ANSWER (R97 to R100). -/
def execAnswer (l : LineNo) (bytes : List Byte) (s : State) : Host.Outcome State Fault Refusal :=
  onEvent s fun s =>
    s.endPoll l fun s a =>
      match parseAnswer bytes with
      | some ans => if ans.addr.toNat = a.val then s.goodAnswer l a ans else s.badAnswer l a
      | none => s.badAnswer l a

/-- ANSWER_WINDOW_EXPIRY (R95, R98). -/
def execAnswerWindowExpiry (l : LineNo) (s : State) : Host.Outcome State Fault Refusal :=
  onEvent s fun s => s.endPoll l fun s a => s.miss l a

/-- ANSWER_BROKEN_OFF (R97). -/
def execAnswerBrokenOff (l : LineNo) (s : State) : Host.Outcome State Fault Refusal :=
  onEvent s fun s => s.endPoll l fun s a => s.badAnswer l a

namespace State

/-- One address under a new poll list (R96): kept, added or removed. The poll in progress to a removed address
keeps its mark if the address is listed again before the transaction ends. DESIGN CHOICE, log entry 48. -/
def relist (old new : BitVec 16) (l : LineNo) (s : State) (a : PanelAddr) : State :=
  let was := old.getLsbD a.val
  let is := new.getLsbD a.val
  if was = is then s
  else
    let s1 := s.modPanel l a fun _ => PanelRec.fresh
    if is then s1
    else
      ((s1.modLine l fun pl =>
        { pl with inProgress := pl.inProgress.map fun poll =>
            if poll.addr = a then { poll with removed := true } else poll }).modKeyQueue l
        fun q => q.purge a).panelGone l a .pollRemoved

end State

/-- POLL-SET (R96); the addresses are treated in ascending order. DESIGN CHOICE, log entry 47. -/
def execPollSet (tag line : Byte) (marks : BitVec 16) (s : State) :
    Host.Outcome State Fault Refusal :=
  onCommand s fun s =>
    match number? 2 line with
    | some l =>
      let s1 := (s.reply tag Kind.pollSet .ok).modLine l fun pl => { pl with pollList := marks }
      allAddrs.foldl (State.relist (s.line l).pollList marks l) s1
    | none => s.reply tag Kind.pollSet .badArg

/-- FILTER-SET (R102). -/
def execFilterSet (tag line : Byte) (filter : FilterArg) (s : State) :
    Host.Outcome State Fault Refusal :=
  onCommand s fun s =>
    match number? 2 line, filter with
    | some l, .single code mask =>
      (s.modLine l fun pl =>
        { pl with filterMode := .single, singleCode := code, singleMask := mask }).reply tag
        Kind.filterSet .ok
    | some l, .dual codeA maskA codeB maskB =>
      (s.modLine l fun pl =>
        { pl with
          filterMode := .dual, codeA := codeA, maskA := maskA, codeB := codeB, maskB := maskB
        }).reply tag Kind.filterSet .ok
    | _, _ => s.reply tag Kind.filterSet .badArg

/-- The filter of the line's mode (R108). -/
def PanelLine.filterReading (pl : PanelLine) : FilterReading :=
  match pl.filterMode with
  | .single => .single pl.singleCode pl.singleMask
  | .dual => .dual pl.codeA pl.maskA pl.codeB pl.maskB

/-- PANEL-GET (R108): the line's answer errors are then 0. -/
def execPanelGet (tag line addr : Byte) (s : State) : Host.Outcome State Fault Refusal :=
  onCommand s fun s =>
    match number? 2 line, number? 16 addr with
    | some l, some a =>
      let pl := s.line l
      (s.reply tag Kind.panelGet .ok
        (.panel
          { pollList := pl.pollList, filter := pl.filterReading, answerErrors := pl.answerErrors
            listed := pl.listed a, panel := s.panel l a })).modLine l
        fun pl => { pl with answerErrors := 0 }
    | _, _ => s.reply tag Kind.panelGet .badArg

/-- QUEUE-GET (R107). -/
def execQueueGet (tag line : Byte) (s : State) : Host.Outcome State Fault Refusal :=
  onCommand s fun s =>
    match number? 2 line with
    | some l =>
      let q := s.keyQueue l
      s.reply tag Kind.queueGet .ok (.queue q.count q.bytesUsed q.overrun q.headInService)
    | none => s.reply tag Kind.queueGet .badArg

end Sys2Proof.Machine
end

