-- ==== Sys2Proof/Machine/ReplyWire.lean ====
section
/-! DEFINITION. The bytes of what the part sends on the control line: result codes (R178), the codes of the
enumerations, reply fields, report bodies, and the frames of replies and reports (11 section 11.6). Fields go
in the order the rule of the reply or report lists them. Widths and forms that section 11.6 does not state are
the model's: DESIGN CHOICE, log entry 8. -/

namespace Sys2Proof.Machine

/-! ## Result codes and enumerations -/

/-- The value of a result code, 00h to 0Ah (R178). -/
def ResultCode.value : ResultCode → Byte
  | .ok => 0x00
  | .clamped => 0x01
  | .busy => 0x02
  | .badArg => 0x03
  | .noRoom => 0x04
  | .inUse => 0x05
  | .notQuiet => 0x06
  | .wrongClass => 0x07
  | .duplicate => 0x08
  | .unknownKind => 0x09
  | .badLength => 0x0A

/-- The code of an enumerated value: its place in the table's order, from 0. -/
def codeOf {α : Type} [DecidableEq α] (values : List α) (x : α) : Byte :=
  BitVec.ofNat 8 (values.idxOf x)

def ReadyCause.code : ReadyCause → Byte := codeOf [.power, .restart]

def LockState.code : LockState → Byte := codeOf [.free, .acquire, .locked, .holdover]

def ClockSource.code : ClockSource → Byte := codeOf [.internal, .reference, .held]

def PortClass.code : PortClass → Byte := codeOf portClasses

def EntryState.code : EntryState → Byte := codeOf [.live, .parked, .guarded]

def EngineState.code : EngineState → Byte := codeOf [.idle, .running, .settling]

def ProbeResult.code : ProbeResult → Byte :=
  codeOf [.locked, .noneSeen, .unstable, .aborted, .clock]

def ProbeStage.code : ProbeStage → Byte := codeOf [.coarse, .medium, .fine]

/-- MARKER, GAP: no row of the table. DESIGN CHOICE, log entry 8. -/
def RoundPhase.code : RoundPhase → Byte := codeOf [.marker, .gap]

def KeyFunction.code : KeyFunction → Byte := codeOf keyFunctions

def KeyMode.code : KeyMode → Byte := codeOf keyModes

def FilterMode.code : FilterMode → Byte := codeOf [.single, .dual]

def RolePref.code : RolePref → Byte := codeOf rolePrefs

def KeyState.code : KeyState → Byte := codeOf [.idle, .held, .latched, .clearing]

def TalkPhase.code : TalkPhase → Byte := codeOf [.beginning, .active, .ending]

def PlaceOutcome.code : PlaceOutcome → Byte := codeOf [.ok, .full, .self, .parked, .refused]

def EndReason.code : EndReason → Byte :=
  codeOf [.key, .echo, .panelAbsent, .pollRemoved, .host]

def TalkRefusal.code : TalkRefusal → Byte := codeOf [.noPort, .emptyGroup, .listFull]

def LaneState.code : LaneState → Byte :=
  codeOf [.off, .seek, .offer, .pages, .live, .dozeHold, .doze, .waking, .barred]

def LaneCause.code : LaneCause → Byte :=
  codeOf [.handshake, .lost, .doze, .remote, .woken, .errors, .roleFault, .mismatch]

def Role.code : Role → Byte := codeOf [.lead, .follow]

def Profile.code : Profile → Byte := codeOf [.tight, .robust]

def LaneClass.code : LaneClass → Byte := codeOf [.good, .soft, .hard]

def ForgetCause.code : ForgetCause → Byte := codeOf [.evicted, .expired]

/-- A flag, mark, latch, presence or selection: 0 for OFF, ABSENT, CLEARED or clear, 1 for the other. -/
def flagByte (b : Bool) : Byte := if b then 1 else 0

/-! ## Fields -/

/-- An object's number or a class, in one byte. -/
def numberByte {n : Nat} (i : Fin n) : Byte := BitVec.ofNat 8 i.val

/-- A one-byte field that may be NONE or absent: FFh then (R179). -/
def byteOrNone {α : Type} (code : α → Byte) (x : Option α) : Byte :=
  match x with
  | some v => code v
  | none => noneCode

/-- An optional field wider than one byte: its presence byte, then the field if it is present. -/
def presenceBytes {α : Type} (bytes : α → List Byte) (x : Option α) : List Byte :=
  match x with
  | some v => 1 :: bytes v
  | none => [0]

/-- A quantity or count in `n` bytes, most significant first. -/
def natBytes (n v : Nat) : List Byte := fieldBytes n (BitVec.ofNat (8 * n) v)

/-- A list: how many items, in one byte, and each item's bytes. -/
def listBytes {α : Type} (bytes : α → List Byte) (xs : List α) : List Byte :=
  BitVec.ofNat 8 xs.length :: xs.flatMap bytes

/-- A page of a listing: the length of the whole list, then the items of the page. -/
def pageBytes {α : Type} (count : Nat) (bytes : α → List Byte) (page : List α) : List Byte :=
  BitVec.ofNat 8 count :: listBytes bytes page

/-- A key identity: line, address, key number. -/
def keyIdBytes (k : KeyId) : List Byte := [numberByte k.line, numberByte k.addr, numberByte k.key]

/-- A target: its kind, PORT or GROUP, and its number. -/
def targetBytes : Target → List Byte
  | .port p => [0, numberByte p]
  | .group g => [1, numberByte g]

/-- A talk's maker: 0 and the key identity, or 1 and the host talk number. -/
def makerBytes : Maker → List Byte
  | .key k => 0 :: keyIdBytes k
  | .host n => [1, numberByte n]

/-- A claim's origin: 0 for FIXED, or 1 and the talk identifier. -/
def originBytes : Origin → List Byte
  | .fixed => [0]
  | .talk id => [1, numberByte id]

/-- An ability set: TIGHT in bit 0, ROBUST in bit 1. -/
def abilityByte (a : Abilities) : Byte := (0#6 ++ boolBit a.robust ++ boolBit a.tight : BitVec 8)

def outcomeBytes (xs : List PlaceOutcome) : List Byte := listBytes (fun x => [x.code]) xs

def duckBytes (d : DuckProfile) : List Byte :=
  byteOrNone numberByte d.threshold ::
    (natBytes 2 d.depth ++ natBytes 2 d.attack ++ natBytes 2 d.hold ++ natBytes 2 d.release)

def cancelBytes (c : CancelSection) : List Byte :=
  numberByte c.slot :: natBytes 2 c.level ++ [byteOrNone numberByte c.returnSource] ++
    presenceBytes (natBytes 2) c.lockedDelay

def bindingBytes (b : LaneBinding) : List Byte :=
  [byteOrNone numberByte b.primary, byteOrNone numberByte b.backup] ++
    presenceBytes (fieldBytes 5) b.expected ++
    [byteOrNone numberByte b.lead, flagByte b.guarded] ++
    natBytes 1 b.depth ++ [numberByte b.buffer]

/-- The port record of PORT-GET, in the order of R26. -/
def portBytes (p : Port) : List Byte :=
  p.cls.code :: natBytes 2 p.trim ++ natBytes 2 p.master ++ [flagByte p.isolated] ++
    duckBytes p.profile ++ presenceBytes duckBytes p.pendingProfile ++
    presenceBytes cancelBytes p.cancel ++
    presenceBytes (fun x : LineNo × PanelAddr => [numberByte x.1, numberByte x.2]) p.panel ++
    presenceBytes bindingBytes p.binding ++ [flagByte p.clipLatch] ++ natBytes 2 p.clipCount

def claimBytes (c : Claim) : List Byte :=
  originBytes c.origin ++ natBytes 2 c.level ++ [numberByte c.cls]

/-- One entry of XP-LIST, in the order of R42. -/
def entryBytes (e : Entry) : List Byte :=
  numberByte e.source :: natBytes 2 e.level ++ [numberByte e.cls, e.state.code] ++
    listBytes claimBytes e.claims

/-- The held period: an offset in 64ths of a part per million, in two's complement (log entries 8 and
11). -/
def heldBytes (v : Int) : List Byte := fieldBytes 4 (BitVec.ofInt 32 v)

/-- CLOCK-GET's fields, in the order of R10. -/
def clockBytes (r : ClockReading) : List Byte :=
  [r.lock.code, flagByte r.selected, r.source.code] ++ presenceBytes heldBytes r.held ++
    natBytes 1 r.goodRun ++ natBytes 1 r.badRun ++ natBytes 1 r.holdoverEntries ++
    fieldBytes 4 r.stationTime

def keyEntryBytes (e : KeyEntry) : List Byte :=
  e.function.code :: presenceBytes targetBytes e.target ++ natBytes 2 e.level ++
    [numberByte e.cls, e.mode.code]

/-- One talk of TALK-LIST, in the order of R129. -/
def talkBytes (t : TalkReading) : List Byte :=
  numberByte t.id :: makerBytes t.maker ++ [t.phase.code, t.function.code, numberByte t.talkingPort] ++
    targetBytes t.target ++ natBytes 2 t.level ++ [numberByte t.cls] ++ fieldBytes 4 t.startTime ++
    presenceBytes outcomeBytes t.outcomes

def filterBytes : FilterReading → List Byte
  | .single code mask => FilterMode.single.code :: fieldBytes 3 code ++ fieldBytes 3 mask
  | .dual codeA maskA codeB maskB =>
    FilterMode.dual.code :: fieldBytes 2 codeA ++ fieldBytes 2 maskA ++ fieldBytes 2 codeB ++
      fieldBytes 2 maskB

/-- PANEL-GET's fields, in the order of R108; lamp states and held keys as on the panel line. -/
def panelBytes (r : PanelReading) : List Byte :=
  fieldBytes 2 r.pollList ++ filterBytes r.filter ++ natBytes 1 r.answerErrors ++
    [flagByte r.listed, flagByte r.panel.present] ++ natBytes 1 r.panel.missRun ++
    natBytes 1 r.panel.pollsSinceTally ++ presenceBytes lampBytes r.panel.lastTally ++
    presenceBytes (fieldBytes 4) r.panel.lastHeld

def probeRunBytes (r : ProbeRunReading) : List Byte :=
  [numberByte r.port, numberByte r.returnSource] ++ natBytes 3 r.level ++ natBytes 3 r.threshold ++
    [r.stage.code] ++ presenceBytes (natBytes 2) r.coarse ++ presenceBytes (natBytes 2) r.medium ++
    natBytes 2 r.candidate ++ [r.phase.code] ++ natBytes 2 r.passes ++ natBytes 1 r.seen ++
    natBytes 1 r.rounds

/-- PROBE-GET's fields, in the order of R92. -/
def probeBytes (r : ProbeReading) : List Byte :=
  natBytes 3 r.level ++ natBytes 3 r.threshold ++ [r.engine.code] ++
    presenceBytes probeRunBytes r.run ++ presenceBytes (natBytes 2) r.settle ++
    listBytes (fun p => [numberByte p]) r.queue

/-- LANE-GET's fields, in the order of R160. -/
def laneBytes (r : LaneReading) : List Byte :=
  [r.state.code, byteOrNone numberByte r.boundPort, flagByte r.enable, r.pref.code,
    abilityByte r.abilities, byteOrNone Role.code r.role, byteOrNone Profile.code r.profile] ++
    presenceBytes (fieldBytes 5) r.unitHeld ++ natBytes 1 r.consecutiveErrors ++
    natBytes 2 r.barredCount ++
    [flagByte r.lost, flagByte r.wake, flagByte r.roleFault, flagByte r.liveHeld] ++
    natBytes 1 r.frameErrors ++ natBytes 1 r.missingFrames ++ natBytes 1 r.lateBlocks ++
    natBytes 1 r.slips ++ natBytes 1 r.pathSwitches

def sweepBytes (r : SweepRecord) : List Byte :=
  natBytes 2 r.errors ++ fieldBytes 2 r.syndromeAnd ++ fieldBytes 2 r.syndromeOr

/-- HEALTH-GET's fields, in the order of R176. -/
def healthBytes (r : HealthReading) : List Byte :=
  natBytes 2 r.settings.interval ++ natBytes 2 r.settings.threshold ++
    natBytes 2 r.settings.hardCount ++ [flagByte r.settings.autoGuard] ++
    natBytes 2 r.settings.retention ++ fieldBytes 4 r.elapsed ++ natBytes 2 r.lane.errors ++
    fieldBytes 2 r.lane.syndromeAnd ++ fieldBytes 2 r.lane.syndromeOr ++
    [flagByte r.lane.syndromesSeen, flagByte r.lane.framesAccepted, r.lane.cls.code] ++
    natBytes 1 r.lane.badRun ++ natBytes 1 r.lane.cleanRun ++ presenceBytes sweepBytes r.lane.lastSweep

/-- One entry of UNIT-GET, in the order of R176. -/
def unitBytes (e : UnitEntry) : List Byte :=
  fieldBytes 5 e.identity ++ [flagByte e.connected, flagByte e.caution] ++ natBytes 2 e.badSweeps ++
    natBytes 2 e.goodRun ++ [e.lastClass.code] ++ presenceBytes (natBytes 2) e.retentionLeft

def lampByte (x : Lamp) : Byte := (lampBits x).setWidth 8

/-- The bytes of a reply's fields. -/
def ReplyFields.bytes : ReplyFields → List Byte
  | .empty => []
  | .identity partCode ports lanes station =>
    natBytes 2 partCode ++ natBytes 1 ports ++ natBytes 1 lanes ++ fieldBytes 5 station
  | .lineState lineErrors dropped reports frames =>
    natBytes 1 lineErrors ++ natBytes 1 dropped ++ natBytes 1 reports ++ natBytes 1 frames
  | .clock r => clockBytes r
  | .port r => portBytes r
  | .entryState st => [st.code]
  | .entries count page => pageBytes count entryBytes page
  | .members list => listBytes (fun p => [numberByte p]) list
  | .key entry state talk lamp =>
    keyEntryBytes entry ++ [state.code] ++
      presenceBytes (fun x : TalkId × TalkPhase => [numberByte x.1, x.2.code]) talk ++ [lampByte lamp]
  | .outcomes list => outcomeBytes list
  | .talks count page => pageBytes count talkBytes page
  | .panel r => panelBytes r
  | .queue count bytesUsed overrun headInService =>
    natBytes 1 count ++ natBytes 2 bytesUsed ++ [flagByte overrun, flagByte headInService]
  | .probe r => probeBytes r
  | .lane r => laneBytes r
  | .health r => healthBytes r
  | .units count page => pageBytes count unitBytes page

/-! ## Replies and reports -/

/-- A reply as a control frame: kind 80h, the command's tag, and a body that begins with the result code and
the command's kind. -/
def Reply.frame (r : Reply) : ControlFrame :=
  ⟨0x80, r.tag, r.code.value :: r.kind :: r.fields.bytes⟩

/-- The kind of a report, 90h to A2h. -/
def Report.kind : Report → Byte
  | .ready .. => 0x90
  | .clockState .. => 0x91
  | .clip .. => 0x92
  | .sceneDone .. => 0x93
  | .probeResult .. => 0x94
  | .panelPresence .. => 0x95
  | .keyOverrun .. => 0x96
  | .talkBegin .. => 0x97
  | .talkEnd .. => 0x98
  | .talkRefused .. => 0x99
  | .remoteCall .. => 0x9A
  | .laneState .. => 0x9B
  | .wakeUnanswered .. => 0x9C
  | .profileForced .. => 0x9D
  | .portDropout .. => 0x9E
  | .laneClass .. => 0x9F
  | .pathSwap .. => 0xA0
  | .guardSet .. => 0xA1
  | .unitForgotten .. => 0xA2

/-- The bytes of a report's fields, in the order of the table of report kinds. -/
def Report.bytes : Report → List Byte
  | .ready cause time => cause.code :: fieldBytes 4 time
  | .clockState previous new time => [previous.code, new.code] ++ fieldBytes 4 time
  | .clip port time => numberByte port :: fieldBytes 4 time
  | .sceneDone applied skipped lowest =>
    natBytes 2 applied ++ natBytes 2 skipped ++ presenceBytes (natBytes 2) lowest
  | .probeResult port result delay stage rounds time =>
    [numberByte port, result.code] ++ presenceBytes (natBytes 2) delay ++
      presenceBytes (fun x : ProbeStage × Nat => x.1.code :: natBytes 2 x.2) stage ++
      natBytes 1 rounds ++ fieldBytes 4 time
  | .panelPresence line addr present => [numberByte line, numberByte addr, flagByte present]
  | .keyOverrun line arrival => numberByte line :: fieldBytes 2 arrival
  | .talkBegin id maker function target outcomes =>
    numberByte id :: makerBytes maker ++ [function.code] ++ targetBytes target ++
      outcomeBytes outcomes
  | .talkEnd id maker reason => numberByte id :: makerBytes maker ++ [reason.code]
  | .talkRefused key reason => keyIdBytes key ++ [reason.code]
  | .remoteCall port lane => [numberByte port, numberByte lane]
  | .laneState lane port left new cause =>
    [numberByte lane, byteOrNone numberByte port, left.code, new.code, cause.code]
  | .wakeUnanswered lane port => [numberByte lane, byteOrNone numberByte port]
  | .profileForced lane port identity =>
    [numberByte lane, numberByte port] ++ fieldBytes 5 identity
  | .portDropout port time => numberByte port :: fieldBytes 4 time
  | .laneClass lane port previous new sweep =>
    [numberByte lane, numberByte port, previous.code, new.code] ++ sweepBytes sweep
  | .pathSwap port oldLead newLead => [numberByte port, numberByte oldLead, numberByte newLead]
  | .guardSet port => [numberByte port]
  | .unitForgotten identity cause => fieldBytes 5 identity ++ [cause.code]

/-- A report as a control frame: its kind, the dropped field in the tag's place, and its fields. -/
def QueuedReport.frame (q : QueuedReport) : ControlFrame :=
  ⟨q.report.kind, BitVec.ofNat 8 q.dropped, q.report.bytes⟩

/-- The bytes of the frame the transmitter sends (R180). -/
def TxFrame.wire : TxFrame → List Byte
  | .reply r => r.frame.wire
  | .report q => q.frame.wire

end Sys2Proof.Machine
end

