-- ==== Sys2Proof/Machine/Writer.lean ====
section
/-! DEFINITION. The Table Writer at work (03 sections 3.3 and 3.8): taking jobs, performing their
operations, completing them, and the commit of a scene. -/

namespace Sys2Proof.Machine

namespace State

/-- The Table Writer takes the job it should serve: a talk job first; a SCENE-COMMIT is answered as it
is taken, and its commit begins at destination 0 (R32, R50; log entry 31). -/
def takeJob (s : State) : State :=
  match s.writer.talkPos, s.writer.hostPos with
  | some _, _ => s.modWriter fun w => { w with state := .servingTalk }
  | none, some j =>
    match j.purpose with
    | .sceneCommit =>
      (s.modWriter fun w =>
        { w with
          state := .committing, hostPos := none, progress := some 0
          applied := 0, skipped := 0, lowestSkipped := none }).endService fun _ => .ok
    | _ => s.modWriter fun w => { w with state := .servingHost }
  | none, none => s

/-- The reply of an XP-SET by its placement's outcome (R40): a placement that finds a port gone UNUSED
is answered WRONG-CLASS (log entry 34). -/
def xpSetCode (outcome : PlaceOutcome) (clamped : Bool) : ResultCode :=
  match outcome with
  | .ok | .parked => okOr clamped
  | .full => .noRoom
  | .refused => .wrongClass
  | .self => .badArg

/-- What XP-SET's reply carries: the entry's state (R40), as it stands when the job completes. DESIGN CHOICE,
log entry 46. -/
def xpSetFields (s : State) (src dst : PortNo) (outcome : PlaceOutcome) : ReplyFields :=
  match outcome with
  | .ok | .parked => .entryState (s.entryState src dst)
  | .full | .refused | .self => .empty

/-- What the completion of a job does for the party that gave it (R33, R40, R41, R112, R117, R119,
R122). -/
def completeJob (s : State) (j : Job) : State :=
  let done (s : State) : State := s.modArbiter fun a => { a with jobInFlight := none }
  match j.purpose with
  | .beginTalk id => (done s).completeBegin id j.results
  | .endTalk id => (done s).completeEnd id
  | .levelStep _ => (done s).completeLevel
  | .groupEdit g old => (done s).completeEdit g old j.results
  | .xpSet src dst =>
    match j.results with
    | r :: _ => s.endService (xpSetCode r.outcome) (s.xpSetFields src dst r.outcome)
    | [] => s
  | .xpClear => s.endService fun _ => .ok
  | .sceneCommit => s

/-- The job's position is freed and the writer is FREE again (R32, R33). -/
def freeWriter (s : State) : State :=
  s.modWriter fun w =>
    match w.state with
    | .servingTalk => { w with state := .free, talkPos := none }
    | .servingHost => { w with state := .free, hostPos := none }
    | .free | .committing => w

/-- The head operation of the job in service, if it is of the kind `p` (R32). -/
def serveHead (s : State) (p : ClaimOp → Bool) : State :=
  match s.jobServed? with
  | some j =>
    match j.ops with
    | op :: _ => if p op then s.serveOp op else s
    | [] => s
  | none => s

/-! ## The commit of a scene (R51 to R54) -/

/-- A FIXED claim of the destination that the scene does not stage is withdrawn (R51). -/
def unstagedSources (s : State) (d : PortNo) : List PortNo :=
  ((s.into d).filter fun e =>
    e.hasOrigin .fixed && !s.writer.staging.any fun x => x.src = e.source ∧ x.dst = d).map
    Entry.source

/-- One staged entry placed, and counted as applied or skipped (R51, R54). -/
def applyStaged (s : State) (x : Nat × Staged) : State :=
  let r := s.placeClaim x.2.src x.2.dst .fixed x.2.level x.2.cls
  r.1.modWriter fun w =>
    match r.2 with
    | .ok | .parked => { w with applied := w.applied + 1 }
    | .full | .self | .refused =>
      { w with
        skipped := w.skipped + 1
        lowestSkipped := some (min x.1 (w.lowestSkipped.getD x.1)) }

/-- The staged entries of a destination with their indexes, in staging order. -/
def stagedInto (s : State) (d : PortNo) : List (Nat × Staged) :=
  s.writer.staging.zipIdx.filterMap fun x => if x.1.dst = d then some (x.2, x.1) else none

/-- A waiting talk job is served whole within the commit, and its position freed (R52). -/
def serveWaitingTalk (s : State) : State :=
  match s.writer.talkPos with
  | none => s
  | some j =>
    let s1 := j.ops.foldl serveOp s
    match s1.writer.talkPos with
    | some j1 => (s1.modWriter fun w => { w with talkPos := none }).completeJob j1
    | none => s1

/-- SCENE-DONE: the counts reported, the staging area emptied, the writer FREE (R54). -/
def finishCommit (s : State) : State :=
  let w := s.writer
  (s.report (.sceneDone w.applied w.skipped w.lowestSkipped)).modWriter fun w =>
    { w with
      state := .free, progress := none, staging := []
      applied := 0, skipped := 0, lowestSkipped := none }

/-- One destination of the commit: withdrawals, placements, then, before the next destination, at most
one waiting talk job; after destination 63 the commit is done (R51, R52, R54). -/
def commitDestination (s : State) (d : PortNo) : State :=
  let s1 := (s.unstagedSources d).foldl (fun s src => s.withdrawClaim src d .fixed) s
  let s2 := (s1.stagedInto d).foldl applyStaged s1
  if h : d.val + 1 < 64 then
    s2.serveWaitingTalk.modWriter fun w => { w with progress := some ⟨d.val + 1, h⟩ }
  else s2.finishCommit

end State

/-- JOB_TAKE (R32): the FREE writer takes a waiting job. -/
def execJobTake (s : State) : Host.Outcome State Fault Refusal :=
  onEvent s fun s => if s.writer.state = .free then s.takeJob else s

/-- CLAIM_PLACE (R29): the next operation of the job in service, a placement. -/
def execClaimPlace (s : State) : Host.Outcome State Fault Refusal :=
  onEvent s fun s => s.serveHead fun op => match op with | .place .. => true | _ => false

/-- CLAIM_WITHDRAW (R30): the next operation of the job in service, a withdrawal. -/
def execClaimWithdraw (s : State) : Host.Outcome State Fault Refusal :=
  onEvent s fun s => s.serveHead fun op => match op with | .withdraw .. => true | _ => false

/-- CLAIM_LEVEL_CHANGE (R31): the next operation of the job in service, a level change. -/
def execClaimLevelChange (s : State) : Host.Outcome State Fault Refusal :=
  onEvent s fun s => s.serveHead fun op => match op with | .levelChange .. => true | _ => false

/-- WRITE_JOB_COMPLETE (R32, R33): the job in service has no operation left. -/
def execWriteJobComplete (s : State) : Host.Outcome State Fault Refusal :=
  onEvent s fun s =>
    match s.jobServed? with
    | some j => if j.ops.isEmpty then s.freeWriter.completeJob j else s
    | none => s

/-- COMMIT_DESTINATION (R51): the next destination of the commit in flight. -/
def execCommitDestination (s : State) : Host.Outcome State Fault Refusal :=
  onEvent s fun s =>
    if s.committing then
      match s.writer.progress with
      | some d => s.commitDestination d
      | none => s
    else s

end Sys2Proof.Machine
end

