-- ==== Sys2Proof/Machine/Control.lean ====
section
/-! DEFINITION. The Control Line Controller (11): the receiver, dispatch, the transmitter, the line's own
commands, and the resets. -/

namespace Sys2Proof.Machine

/-! ## The receiver (R177) -/

/-- One line error, and the frame in progress is dropped. -/
def Control.lineError (c : Control) : Control :=
  { c with rxPhase := .hunt, rxBytes := [], lineErrors := addSat 255 c.lineErrors 1 }

/-- The start byte C5h. -/
def startByte : Byte := 0xC5#8

/-- A length byte is in range. -/
def goodLength (b : Byte) : Bool := decide (2 ≤ b.toNat) && decide (b.toNat ≤ 250)

/-- The bytes from the length to the check, complete: the check is judged, and a good frame joins the
FIFO if it holds fewer than 8. -/
def Control.judgeBytes (c : Control) (bytes : List Byte) : Control :=
  let counted := bytes.take (bytes.length - 1)
  match counted, bytes.getLast? with
  | _ :: kind :: tag :: body, some check =>
    if check = controlCheck counted ∧ c.fifo.length < 8 then
      { c with rxPhase := .hunt, rxBytes := [], fifo := c.fifo ++ [⟨kind, tag, body⟩] }
    else c.lineError
  | _, _ => c.lineError

/-- The receiver takes one byte. -/
def Control.rxByte (c : Control) (b : Byte) : Control :=
  match c.rxPhase with
  | .hunt => if b = startByte then { c with rxPhase := .length, rxBytes := [] } else c
  | .length => if goodLength b then { c with rxPhase := .collect, rxBytes := [b] } else c.lineError
  | .collect =>
    let bytes := c.rxBytes ++ [b]
    if bytes.length = (bytes.headD 0).toNat + 2 then c.judgeBytes bytes
    else { c with rxBytes := bytes }

/-- CONTROL_FRAME_RECEIVED (R177): bytes arrive without a gap, and the receiver takes each. -/
def execControlFrameReceived (bytes : List Byte) (s : State) : Host.Outcome State Fault Refusal :=
  onEvent s fun s => s.modControl fun c => bytes.foldl Control.rxByte c

/-- LINE_GAP_TIMEOUT (R177): a gap of more than 1 ms in LENGTH or COLLECT. -/
def execLineGapTimeout (s : State) : Host.Outcome State Fault Refusal :=
  onEvent s fun s =>
    s.modControl fun c =>
      match c.rxPhase with
      | .hunt => c
      | .length | .collect => c.lineError

/-- LENGTH_OUT_OF_RANGE (R177): a byte outside 2..250 taken in LENGTH. -/
def execLengthOutOfRange (length : Byte) (s : State) : Host.Outcome State Fault Refusal :=
  onEvent s fun s =>
    s.modControl fun c =>
      match c.rxPhase with
      | .length => if goodLength length then c else c.lineError
      | .hunt | .collect => c

/-! ## The transmitter (R180) -/

namespace State

/-- The frame being sent is the reply of a RESTART, which is the last one formed (R183). -/
def sendingRestartReply (s : State) : Bool :=
  match s.control.tx with
  | some (.reply _) => s.control.restart == .replying && s.control.replies.isEmpty
  | _ => false

/-- The frame being sent has ended: the restart is now to take effect, or the transmitter chooses its
next frame (R180, R183). -/
def endFrame (s : State) : State :=
  let s1 := s.modControl fun c => { c with tx := none }
  if s.sendingRestartReply then s1.modControl fun c => { c with restart := .effectDue }
  else s1.startTransmitter

end State

/-- TRANSMIT_COMPLETE (R180). -/
def execTransmitComplete (s : State) : Host.Outcome State Fault Refusal :=
  onEvent s fun s => if s.control.tx.isSome then s.endFrame else s

/-! ## The line's own commands -/

/-- IDENTIFY (R181). -/
def execIdentify (tag : Byte) (s : State) : Host.Outcome State Fault Refusal :=
  onCommand s fun s => s.reply tag Kind.identify .ok (.identity 6424 64 24 s.stationId)

/-- LINE-GET (R181): the line errors are then 0. -/
def execLineGet (tag : Byte) (s : State) : Host.Outcome State Fault Refusal :=
  onCommand s fun s =>
    (s.reply tag Kind.lineGet .ok
      (.lineState s.control.lineErrors s.reports.dropped s.reports.queue.length
        s.control.fifo.length)).modControl
      fun c => { c with lineErrors := 0 }

/-- RESTART (R183 step 1): the reply is formed, and no further command is taken. -/
def execRestart (tag : Byte) (s : State) : Host.Outcome State Fault Refusal :=
  onCommand s fun s =>
    (s.modControl fun c => { c with restart := .replying }).reply tag Kind.restart .ok

/-! ## The resets (R11, R12, R182, R183) -/

/-- A unit's entry after RESTART: disconnected, with the retention setting of the reset (R172). -/
def restartedUnit (e : UnitEntry) : UnitEntry :=
  { e with connected := false, retentionLeft := some 360 }

/-- The part after RESTART, before READY: every block at its reset values but the timing unit, the unit
history and the receiver (R12, R172, R183). -/
def State.restarted (s : State) : State :=
  { timing := s.timing
    health := { sweepStart := s.time }
    units := s.units.map restartedUnit
    control :=
      { rxPhase := s.control.rxPhase, rxBytes := s.control.rxBytes, fifo := s.control.fifo
        lineErrors := s.control.lineErrors }
    freeCount := s.freeCount
    pending := s.pending }

/-- RESTART_TAKE_EFFECT (R183 steps 2 and 3): after the reply's last byte. -/
def execRestartTakeEffect (s : State) : Host.Outcome State Fault Refusal :=
  onEvent s fun s =>
    if s.control.restart = .effectDue then s.restarted.report (.ready .restart s.time) else s

/-- HARDWARE_RESET (R11, R182): the reset line goes low; the frame being sent is cut off. -/
def execHardwareReset (s : State) : Host.Outcome State Fault Refusal :=
  .next { s with resetHeld := true, control := { s.control with tx := none } }

/-- RESET_RELEASE (R11, R182): the part right after reset, with READY its first message. -/
def execResetRelease (s : State) : Host.Outcome State Fault Refusal :=
  .next
    (if s.resetHeld then { State.reset with freeCount := s.freeCount, pending := s.pending } else s)

/-! ## Dispatch (R178) -/

/-- A command passed to its block. No frame carries an internal event. -/
def passCommand (i : Instr) (s : State) : Host.Outcome State Fault Refusal :=
  match i with
  | .identify tag => execIdentify tag s
  | .lineGet tag => execLineGet tag s
  | .restart tag => execRestart tag s
  | .stationIdSet tag identity => execStationIdSet tag identity s
  | .clockSetReference tag => execClockSetReference tag s
  | .clockSetFree tag => execClockSetFree tag s
  | .clockGet tag => execClockGet tag s
  | .portSetClass tag port cls => execPortSetClass tag port cls s
  | .portSetLevels tag port trim master => execPortSetLevels tag port trim master s
  | .portSetIsolate tag port onOff => execPortSetIsolate tag port onOff s
  | .portSetDuck tag port threshold depth attack hold release => execPortSetDuck tag port threshold depth attack hold release s
  | .portSetCancelOn tag port level returnSource => execPortSetCancelOn tag port level returnSource s
  | .portSetCancelOff tag port => execPortSetCancelOff tag port s
  | .portSetPanel tag port line addr => execPortSetPanel tag port line addr s
  | .portSetLanes tag port primary backup identity depth => execPortSetLanes tag port primary backup identity depth s
  | .portGet tag port => execPortGet tag port s
  | .xpSet tag src dst level cls => execXpSet tag src dst level cls s
  | .xpClear tag src dst => execXpClear tag src dst s
  | .xpList tag dst start => execXpList tag dst start s
  | .sceneBegin tag => execSceneBegin tag s
  | .sceneAbandon tag => execSceneAbandon tag s
  | .sceneEntry tag src dst level cls => execSceneEntry tag src dst level cls s
  | .sceneCommit tag => execSceneCommit tag s
  | .groupSet tag group members => execGroupSet tag group members s
  | .groupGet tag group => execGroupGet tag group s
  | .keySet tag line addr key function targetKind target level cls mode => execKeySet tag line addr key function targetKind target level cls mode s
  | .keyGet tag line addr key => execKeyGet tag line addr key s
  | .talkForce tag number function src targetKind target level cls => execTalkForce tag number function src targetKind target level cls s
  | .talkDrop tag selector number => execTalkDrop tag selector number s
  | .talkList tag start => execTalkList tag start s
  | .pollSet tag line marks => execPollSet tag line marks s
  | .filterSet tag line filter => execFilterSet tag line filter s
  | .panelGet tag line addr => execPanelGet tag line addr s
  | .queueGet tag line => execQueueGet tag line s
  | .probe tag port settings => execProbe tag port settings s
  | .probeCancel tag port => execProbeCancel tag port s
  | .probeGet tag => execProbeGet tag s
  | .laneSet tag lane enable preference => execLaneSet tag lane enable preference s
  | .laneGet tag lane => execLaneGet tag lane s
  | .laneRetune tag lane abilities => execLaneRetune tag lane abilities s
  | .laneWake tag lane => execLaneWake tag lane s
  | .healthSet tag interval threshold hardCount autoGuard retention => execHealthSet tag interval threshold hardCount autoGuard retention s
  | .healthGet tag lane => execHealthGet tag lane s
  | .unitGet tag start => execUnitGet tag start s
  | .guardClear tag port => execGuardClear tag port s
  | .hardwareReset | .resetRelease | .referencePeriodJudgement _ | .mixPass _ | .holdExpiry _
  | .frameBoundary | .barredCountExpiry _ | .controlFrameReceived _ | .lineGapTimeout
  | .commandDispatch | .transmitComplete | .restartTakeEffect | .jobTake | .claimPlace
  | .claimWithdraw | .claimLevelChange | .writeJobComplete | .commitDestination
  | .hostCommandTake | .keyRecordTake | .endJobIssue | .longTimerExpiry _ | .poll _ | .answer _ _
  | .answerWindowExpiry _ | .probeStart | .windowJudgement | .gapExpiry | .settleExpiry
  | .laneFrameReceived _ _ | .silenceExpiry _ | .handshakeTimeout _ | .wakeCountExpiry _
  | .sweepExpiry | .lengthOutOfRange _ | .answerBrokenOff _ => .next s

/-- COMMAND_DISPATCH (R178): the oldest frame of the FIFO is judged by kind and length, and refused at
the line or passed to its block. -/
def execCommandDispatch (s : State) : Host.Outcome State Fault Refusal :=
  if s.takesCommand then
    match s.control.fifo with
    | f :: rest =>
      let s1 := s.modControl fun c => { c with fifo := rest }
      match judgeFrame f with
      | .unknownKind => .next (s1.reply f.tag f.kind .unknownKind)
      | .badLength => .next (s1.reply f.tag f.kind .badLength)
      | .badArg => .next (s1.reply f.tag f.kind .badArg)
      | .command i => passCommand i s1
    | [] => .next s
  else .next s

end Sys2Proof.Machine
end

