-- ==== Sys2Proof/Machine/Dispatch.lean ====
section
/-! DEFINITION. What each command does: one arm for each row of spec/opcode_table.json. -/

namespace Sys2Proof.Machine

/-- The command's effect on everything but the queue. -/
def exec (i : Instr) (s : State) : Host.Outcome State Fault Refusal :=
  match i with
  | .hardwareReset => Sys2Proof.Machine.execHardwareReset s
  | .resetRelease => Sys2Proof.Machine.execResetRelease s
  | .referencePeriodJudgement p => Sys2Proof.Machine.execReferencePeriodJudgement p s
  | .mixPass inputs => Sys2Proof.Machine.execMixPass inputs s
  | .holdExpiry port => Sys2Proof.Machine.execHoldExpiry port s
  | .frameBoundary => Sys2Proof.Machine.execFrameBoundary s
  | .barredCountExpiry lane => Sys2Proof.Machine.execBarredCountExpiry lane s
  | .controlFrameReceived bytes => Sys2Proof.Machine.execControlFrameReceived bytes s
  | .lineGapTimeout => Sys2Proof.Machine.execLineGapTimeout s
  | .commandDispatch => Sys2Proof.Machine.execCommandDispatch s
  | .transmitComplete => Sys2Proof.Machine.execTransmitComplete s
  | .identify tag => Sys2Proof.Machine.execIdentify tag s
  | .lineGet tag => Sys2Proof.Machine.execLineGet tag s
  | .restart tag => Sys2Proof.Machine.execRestart tag s
  | .restartTakeEffect => Sys2Proof.Machine.execRestartTakeEffect s
  | .stationIdSet tag identity => Sys2Proof.Machine.execStationIdSet tag identity s
  | .clockSetReference tag => Sys2Proof.Machine.execClockSetReference tag s
  | .clockSetFree tag => Sys2Proof.Machine.execClockSetFree tag s
  | .clockGet tag => Sys2Proof.Machine.execClockGet tag s
  | .portSetClass tag port cls => Sys2Proof.Machine.execPortSetClass tag port cls s
  | .portSetLevels tag port trim master => Sys2Proof.Machine.execPortSetLevels tag port trim master s
  | .portSetIsolate tag port onOff => Sys2Proof.Machine.execPortSetIsolate tag port onOff s
  | .portSetDuck tag port threshold depth attack hold release => Sys2Proof.Machine.execPortSetDuck tag port threshold depth attack hold release s
  | .portSetCancelOn tag port level returnSource => Sys2Proof.Machine.execPortSetCancelOn tag port level returnSource s
  | .portSetCancelOff tag port => Sys2Proof.Machine.execPortSetCancelOff tag port s
  | .portSetPanel tag port line addr => Sys2Proof.Machine.execPortSetPanel tag port line addr s
  | .portSetLanes tag port primary backup identity depth => Sys2Proof.Machine.execPortSetLanes tag port primary backup identity depth s
  | .portGet tag port => Sys2Proof.Machine.execPortGet tag port s
  | .xpSet tag src dst level cls => Sys2Proof.Machine.execXpSet tag src dst level cls s
  | .xpClear tag src dst => Sys2Proof.Machine.execXpClear tag src dst s
  | .xpList tag dst start => Sys2Proof.Machine.execXpList tag dst start s
  | .sceneBegin tag => Sys2Proof.Machine.execSceneBegin tag s
  | .sceneAbandon tag => Sys2Proof.Machine.execSceneAbandon tag s
  | .sceneEntry tag src dst level cls => Sys2Proof.Machine.execSceneEntry tag src dst level cls s
  | .sceneCommit tag => Sys2Proof.Machine.execSceneCommit tag s
  | .jobTake => Sys2Proof.Machine.execJobTake s
  | .claimPlace => Sys2Proof.Machine.execClaimPlace s
  | .claimWithdraw => Sys2Proof.Machine.execClaimWithdraw s
  | .claimLevelChange => Sys2Proof.Machine.execClaimLevelChange s
  | .writeJobComplete => Sys2Proof.Machine.execWriteJobComplete s
  | .commitDestination => Sys2Proof.Machine.execCommitDestination s
  | .groupSet tag group members => Sys2Proof.Machine.execGroupSet tag group members s
  | .groupGet tag group => Sys2Proof.Machine.execGroupGet tag group s
  | .keySet tag line addr key function targetKind target level cls mode => Sys2Proof.Machine.execKeySet tag line addr key function targetKind target level cls mode s
  | .keyGet tag line addr key => Sys2Proof.Machine.execKeyGet tag line addr key s
  | .talkForce tag number function src targetKind target level cls => Sys2Proof.Machine.execTalkForce tag number function src targetKind target level cls s
  | .talkDrop tag selector number => Sys2Proof.Machine.execTalkDrop tag selector number s
  | .talkList tag start => Sys2Proof.Machine.execTalkList tag start s
  | .hostCommandTake => Sys2Proof.Machine.execHostCommandTake s
  | .keyRecordTake => Sys2Proof.Machine.execKeyRecordTake s
  | .endJobIssue => Sys2Proof.Machine.execEndJobIssue s
  | .longTimerExpiry key => Sys2Proof.Machine.execLongTimerExpiry key s
  | .poll line => Sys2Proof.Machine.execPoll line s
  | .answer line bytes => Sys2Proof.Machine.execAnswer line bytes s
  | .answerWindowExpiry line => Sys2Proof.Machine.execAnswerWindowExpiry line s
  | .pollSet tag line marks => Sys2Proof.Machine.execPollSet tag line marks s
  | .filterSet tag line filter => Sys2Proof.Machine.execFilterSet tag line filter s
  | .panelGet tag line addr => Sys2Proof.Machine.execPanelGet tag line addr s
  | .queueGet tag line => Sys2Proof.Machine.execQueueGet tag line s
  | .probe tag port settings => Sys2Proof.Machine.execProbe tag port settings s
  | .probeCancel tag port => Sys2Proof.Machine.execProbeCancel tag port s
  | .probeGet tag => Sys2Proof.Machine.execProbeGet tag s
  | .probeStart => Sys2Proof.Machine.execProbeStart s
  | .windowJudgement => Sys2Proof.Machine.execWindowJudgement s
  | .gapExpiry => Sys2Proof.Machine.execGapExpiry s
  | .settleExpiry => Sys2Proof.Machine.execSettleExpiry s
  | .laneFrameReceived lane bytes => Sys2Proof.Machine.execLaneFrameReceived lane bytes s
  | .silenceExpiry lane => Sys2Proof.Machine.execSilenceExpiry lane s
  | .handshakeTimeout lane => Sys2Proof.Machine.execHandshakeTimeout lane s
  | .wakeCountExpiry lane => Sys2Proof.Machine.execWakeCountExpiry lane s
  | .laneSet tag lane enable preference => Sys2Proof.Machine.execLaneSet tag lane enable preference s
  | .laneGet tag lane => Sys2Proof.Machine.execLaneGet tag lane s
  | .laneRetune tag lane abilities => Sys2Proof.Machine.execLaneRetune tag lane abilities s
  | .laneWake tag lane => Sys2Proof.Machine.execLaneWake tag lane s
  | .sweepExpiry => Sys2Proof.Machine.execSweepExpiry s
  | .healthSet tag interval threshold hardCount autoGuard retention => Sys2Proof.Machine.execHealthSet tag interval threshold hardCount autoGuard retention s
  | .healthGet tag lane => Sys2Proof.Machine.execHealthGet tag lane s
  | .unitGet tag start => Sys2Proof.Machine.execUnitGet tag start s
  | .guardClear tag port => Sys2Proof.Machine.execGuardClear tag port s
  | .lengthOutOfRange length => Sys2Proof.Machine.execLengthOutOfRange length s
  | .answerBrokenOff line => Sys2Proof.Machine.execAnswerBrokenOff line s

end Sys2Proof.Machine
end

