-- ==== Sys2Proof/Safety.lean ====
section
/-! DEFINITION. What the part must keep, in the terms the statements use: what it has answered and
reported, and the invariants the document states of its tables and queues. No step of the part ends in a
fault or a refusal, so a safe run is one that keeps these. -/

namespace Sys2Proof.Machine

/-- What an entry holds apart from its state: source, claims, level and class. -/
def Entry.contents (e : Entry) : PortNo × List Claim × Nat × XpClass :=
  (e.source, e.claims, e.level, e.cls)

namespace State

/-! ## What has been answered and reported -/

/-- The replies formed and not yet wholly sent, in order: the one being sent, then those waiting
(R180). -/
def unsentReplies (s : State) : List Reply :=
  (match s.control.tx with
    | some (.reply r) => [r]
    | _ => []) ++ s.control.replies

/-- The reports kept and not yet wholly sent, in order: the one being sent, then the Report Queue
(R180, R181). -/
def unsentReports (s : State) : List QueuedReport :=
  (match s.control.tx with
    | some (.report q) => [q]
    | _ => []) ++ s.reports.queue

/-- From `s` to `t` exactly these replies are formed, in this order. -/
def FormsReplies (s t : State) (replies : List Reply) : Prop :=
  t.unsentReplies = s.unsentReplies ++ replies

/-- From `s` to `t` no report is offered to the Report Queue. -/
def QueuesNoReport (s t : State) : Prop :=
  t.unsentReports = s.unsentReports ∧ t.reports.dropped = s.reports.dropped

/-- From `s` to `t` exactly one report is offered to the Report Queue (R181): kept with the dropped
count, which is then 0, or discarded and counted if the queue holds 64. -/
def QueuesReport (s t : State) (r : Report) : Prop :=
  if s.reports.queue.length < 64 then
    t.unsentReports = s.unsentReports ++ [⟨r, s.reports.dropped⟩] ∧ t.reports.dropped = 0
  else
    t.unsentReports = s.unsentReports ∧ t.reports.dropped = min 255 (s.reports.dropped + 1)

/-- From `s` to `t` exactly these reports are offered, in this order (R181). Where a frame is being sent, or
there is room for them all, as many are kept as there is room for; the first kept carries the dropped count,
which is then 0, and each of the others is discarded and counted. -/
def QueuesReports (s t : State) (rs : List Report) : Prop :=
  s.control.tx ≠ none ∨ s.reports.queue.length + rs.length ≤ 64 →
    let kept := rs.take (64 - s.reports.queue.length)
    t.unsentReports = s.unsentReports ++
      kept.zipIdx.map (fun x => ⟨x.1, if x.2 = 0 then s.reports.dropped else 0⟩) ∧
    t.reports.dropped =
      if kept.length = rs.length then (if rs = [] then s.reports.dropped else 0)
      else
        min 255 ((if kept = [] then s.reports.dropped else 0) + (rs.length - kept.length))

/-- From `s` to `t` exactly one reply is formed, and no report is offered. -/
def Answers (s t : State) (tag kind : Byte) (code : ResultCode) (fields : ReplyFields := .empty) :
    Prop :=
  s.FormsReplies t [⟨tag, kind, code, fields⟩] ∧ s.QueuesNoReport t

/-- From `s` to `t` exactly one report is offered, and no reply is formed. -/
def Offers (s t : State) (r : Report) : Prop := s.FormsReplies t [] ∧ s.QueuesReport t r

/-- From `s` to `t` nothing is formed or offered. -/
def Silent (s t : State) : Prop := s.FormsReplies t [] ∧ s.QueuesNoReport t

/-- `t` is `c` apart from the replies waiting, the Report Queue and the frame being sent: nothing else of
the state differs. The other fields that a command changes stand in `c`. -/
def IsBut (c t : State) : Prop :=
  t =
    { c with
      control := { c.control with replies := t.control.replies, tx := t.control.tx }
      reports := t.reports }

/-! ## Lanes and calls -/

/-- From `u` to `t` the lane sends one frame, under its transmit sequence and with the control word and the
audio of its state, and nothing else changes (R130, R131): the transmit sequence rises, the new block is kept
for a ROBUST repeat, and the progress or the wake count rises (R141, R157). -/
def SendsOne (u t : State) (l : LaneNo) : Prop :=
  let y := u.lane l
  let new : Block :=
    match y.boundPort with
    | some p =>
      List.replicate (48 - u.mix.lastFrame.length) 0 ++ u.mix.lastFrame.map fun pass => pass.get p
    | none => zeroBlock
  let audio : List Block :=
    match y.state, y.profile with
    | .live, some .robust | .dozeHold, some .robust | .waking, some .robust =>
      [new, y.sentBlock2.getD zeroBlock]
    | .live, _ | .dozeHold, _ | .waking, _ => [new]
    | _, _ => []
  t = u.modLane l fun y =>
    { y with
      frameOut := some ⟨y.txSeq, u.laneWord l, audio⟩, txSeq := y.txSeq + 1
      sentBlock1 := audio.head?, sentBlock2 := y.sentBlock1
      progress := if y.state = .pages then min 250 (y.progress + 1) else y.progress
      wakeCount := if y.state = .waking then min 2000 (y.wakeCount + 1) else y.wakeCount }

/-- The states in which the role decides when a lane sends (R130, R131). -/
def LaneSendsByRole (st : LaneState) : Prop :=
  st = .pages ∨ st = .live ∨ st = .dozeHold ∨ st = .doze ∨ st = .waking

/-- What an event on lane `l` does where the part follows it (R131): all that it does where the part leads it,
and then the lane sends one frame, unless the event has taken it out of the states in which it sends by its
role. -/
def FollowsUp (i : Instr) (l : LaneNo) (s : State) : Prop :=
  ∃ u t, exec i (s.modLane l fun x => { x with role := some .lead }) = .next u ∧ exec i s = .next t ∧
    let back := u.modLane l fun y =>
      { y with role := if y.role = some .lead then some .follow else y.role }
    (LaneSendsByRole (u.lane l).state → back.SendsOne t l) ∧
      (¬ LaneSendsByRole (u.lane l).state → t = back)

/-- The lane state a wake request leaves (R121, R155, R156). -/
def wokenState : LaneState → LaneState
  | .dozeHold => .live
  | .doze => .waking
  | .off => .off
  | .seek => .seek
  | .offer => .offer
  | .pages => .pages
  | .live => .live
  | .waking => .waking
  | .barred => .barred

/-- From `s` to `t` the bound lanes of the REMOTE ports among `ports` get a wake request, and no other lane
changes its state (R121). -/
def Wakes (s t : State) (ports : List PortNo) : Prop :=
  (∀ p ∈ ports, (s.port p).cls = .remote → ∀ l ∈ (s.port p).boundLanes,
    (t.lane l).state = wokenState (s.lane l).state) ∧
  ∀ l, (∀ p ∈ ports, (s.port p).cls = .remote → l ∉ (s.port p).boundLanes) →
    (t.lane l).state = (s.lane l).state

/-- A CALL talk in phase ACTIVE has an OK outcome on the port: its local call indication is present (R121). -/
def CallStands (s : State) (p : PortNo) : Prop :=
  ∃ x ∈ s.arbiter.talks, x.function = .call ∧ x.phase = .active ∧ x.outcomeOn p = some .ok

/-- From `s` to `t` a CALL talk with these outcomes joins the active talk list and is ACTIVE at once (R119,
R120): its REMOTE ports are woken, the lanes of its REMOTE target ports, its talking port apart, are told the
local call (R121), and no claim moves. -/
def BeginsCall (s t : State) (talk : Talk) (outcomes : List PlaceOutcome) : Prop :=
  s.Wakes t (talk.talkingPort :: talk.targets) ∧
  t.arbiter.talks.map Talk.id = s.arbiter.talks.map Talk.id ++ [talk.id] ∧
  (∃ k, t.talk? talk.id = some k ∧
    k = { talk with
          phase := .active, outcomes := some outcomes, heldNotices := k.heldNotices }) ∧
  (∀ p ∈ talk.targets, (s.port p).cls = .remote → p ≠ talk.talkingPort →
    ∀ l ∈ (s.port p).boundLanes, (t.lane l).localCall = true) ∧
  ∀ d, (t.into d).map Entry.contents = (s.into d).map Entry.contents

/-- Another CALL talk than `x`, ACTIVE, has an OK outcome on the port. -/
def OtherCallStands (s : State) (x : Talk) (p : PortNo) : Prop :=
  ∃ y ∈ s.arbiter.talks, y.id ≠ x.id ∧ y.function = .call ∧ y.phase = .active ∧
    y.outcomeOn p = some .ok

/-- `t` is `c` after the end of the ACTIVE CALL talk `x` of `s`: where no other call stands on its target ports
their lanes lose the local call, and where another stands on each, and their lanes have the local call, the
lanes are as they were (R121). -/
def EndsCall (s : State) (x : Talk) (c t : State) : Prop :=
  ((∀ p ∈ x.targets, ¬ s.OtherCallStands x p) →
    (∀ l, t.lane l =
      { s.lane l with
        localCall :=
          (s.lane l).localCall && !(x.targets.any fun p => (s.port p).boundLanes.contains l) }) ∧
    t = { c with lanes := t.lanes }) ∧
  ((∀ p ∈ x.targets, ∀ l ∈ (s.port p).boundLanes,
      (s.port p).cls = .remote ∧ s.OtherCallStands x p ∧ (s.lane l).localCall = true) →
    t = c)

/-- The FIXED claims among entries, each with its source, in order. -/
def fixedClaims (es : List Entry) : List (PortNo × Claim) :=
  es.flatMap fun e => (e.claims.filter fun c => decide (c.origin = .fixed)).map fun c => (e.source, c)

/-! ## Invariants -/

/-- The Report Queue never holds more than 64 reports (R181). -/
def ReportsBounded (s : State) : Prop := s.reports.queue.length ≤ 64

/-- The command FIFO never holds more than 8 frames (R177). -/
def FifoBounded (s : State) : Prop := s.control.fifo.length ≤ 8

end State

/-- A Key Queue as R103 says it always is: at most 256 bytes of whole records, its record count their
number and its bytes used the sum of their sizes. -/
def KeyQueue.Sound (q : KeyQueue) : Prop :=
  q.count = q.records.length ∧ q.bytesUsed = (q.records.map KeyRecord.size).sum ∧ q.bytesUsed ≤ 256

/-- A duck profile's depth is at most 1024 (02 section 2.1). -/
def DuckProfile.Sound (p : DuckProfile) : Prop := p.depth ≤ 1024

/-- A Duck Unit as R56 says it always is: its factor between the depth of the profile in force and 1024,
and 1024 in OPEN. -/
def Duck.Sound (p : Port) (d : Duck) : Prop :=
  p.profile.depth ≤ d.factor ∧ d.factor ≤ 1024 ∧ (d.state = .opened → d.factor = 1024)

/-- An entry as R27 says it always is: 1 to 8 claims of distinct origins, its level and its class the
largest among them. -/
def Entry.Sound (e : Entry) : Prop :=
  1 ≤ e.claims.length ∧ e.claims.length ≤ 8 ∧ (e.claims.map Claim.origin).Nodup ∧
    (∀ c ∈ e.claims, c.level ≤ e.level ∧ c.cls ≤ e.cls) ∧
    (∃ c ∈ e.claims, c.level = e.level) ∧ ∃ c ∈ e.claims, c.cls = e.cls

/-- Cancel positions strictly rise, lie in 0..4095, and no sample listed is 0 (R68, R69). -/
def CancelSlot.Sound (k : CancelSlot) : Prop :=
  (k.history.map Prod.fst).Pairwise (· < ·) ∧ ∀ x ∈ k.history, x.1 < 4096 ∧ x.2 ≠ 0

namespace State

/-- Both Key Queues are sound (R103). -/
def KeyQueuesSound (s : State) : Prop := ∀ l, (s.keyQueue l).Sound

/-- Every Duck Unit is sound, and so are the profiles it may take (R56). -/
def DucksSound (s : State) : Prop :=
  ∀ p, (s.duck p).Sound (s.port p) ∧ (s.port p).profile.Sound ∧
    ∀ q, (s.port p).pendingProfile = some q → q.Sound

/-- The Crosspoint Table as R27 and R28 say it always is: at most 1024 entries, at most 32 into one
destination, one entry for a pair, none from a port to itself, and every entry sound. -/
def CrosspointsSound (s : State) : Prop :=
  s.entryCount ≤ 1024 ∧
    ∀ d, (s.into d).length ≤ 32 ∧ ((s.into d).map Entry.source).Nodup ∧
      ∀ e ∈ s.into d, e.source ≠ d ∧ e.Sound

/-- The active talk list holds at most 128 talks, each identifier once (R118). -/
def TalksSound (s : State) : Prop :=
  s.arbiter.talks.length ≤ 128 ∧ (s.arbiter.talks.map Talk.id).Nodup

/-- The Unit History Table holds at most 32 entries with distinct identities (R172). -/
def UnitsSound (s : State) : Prop :=
  s.units.length ≤ 32 ∧ (s.units.map UnitEntry.identity).Nodup

/-- A lane is bound to the one port whose binding names it, and only REMOTE ports have a lane binding (R16,
R25). -/
def BindingsSound (s : State) : Prop :=
  (∀ p l, l ∈ (s.port p).boundLanes ↔ (s.lane l).boundPort = some p) ∧
    ∀ p, (s.port p).binding ≠ none → (s.port p).cls = .remote

/-- The operations of the job in the talk position place and withdraw claims of talks alone (R31, R119). -/
def TalkJobSound (s : State) : Prop :=
  ∀ j, s.writer.talkPos = some j → ∀ op ∈ j.ops, ∀ src dst,
    (∀ level cls, op ≠ .place src dst .fixed level cls) ∧ op ≠ .withdraw src dst .fixed

/-- Every cancel slot's history has its one form (R68, R69). -/
def CancelSound (s : State) : Prop := ∀ k, (s.slot k).Sound

end State

/-- The Station Timing Unit as R1, R4 and R5 say it is: the clock source of each lock state, a held period
wherever the clock keeps one, the good periods of the run in ACQUIRE, and in LOCKED the 64 whose mean the
held period is, in 64ths of a part per million. -/
def Timing.Sound (t : Timing) : Prop :=
  match t.lock with
  | .free => t.source = .internal ∧ t.goodRun = 0 ∧ t.recentGood = []
  | .acquire =>
    t.source ≠ .reference ∧ (t.source = .held → t.held.isSome) ∧ t.goodRun ≤ 63 ∧
      t.recentGood.length = t.goodRun
  | .locked =>
    t.source = .reference ∧ t.badRun ≤ 7 ∧ t.recentGood.length = 64 ∧ t.held = some t.recentGood.sum
  | .holdover => t.source = .held ∧ t.held.isSome

/-- Command `i` on `s` answers a next state in which exactly one reply has been formed and no report
queued, and which is `c` apart from what waits to be sent. -/
def Completes (i : Instr) (s c : State) (tag kind : Byte) (code : ResultCode)
    (fields : ReplyFields := .empty) : Prop :=
  ∃ t, exec i s = .next t ∧ s.Answers t tag kind code fields ∧ c.IsBut t

/-- Every step from a state with the property leads to a state with it. -/
def KeptByEveryStep (inv : State → Prop) : Prop :=
  ∀ s t, inv s → step s = .next t → inv t

end Sys2Proof.Machine
end

