-- ==== Sys2Proof/WellFormed.lean ====
section
/-! DEFINITION. What a command's operands must satisfy to be one the part can be given. A host
command's fields are ill-formed only where no frame of 11 section 11.6 could carry them; values that
a frame carries and a block refuses are well-formed. -/

namespace Sys2Proof

/-- The well-formed commands: an unknown filter mode is one that is neither code (11 section 11.6),
a member list fits a body of 248 bytes (R177), a reference period's closing edge comes no later than
101% (R2), a byte given to LENGTH_OUT_OF_RANGE is outside 2..250 (R177), and a lane frame, an answer
or a control frame holds at least one byte. -/
def Instr.wellFormed : Instr → Bool
  | .filterSet _ _ (.unknown mode) => decide (2 ≤ mode.toNat)
  | .groupSet _ _ members => decide (members.length ≤ 246)
  | .referencePeriodJudgement p =>
    match p.edge with
    | some offset => decide (offset ≤ 10000)
    | none => true
  | .lengthOutOfRange length => decide (length.toNat < 2 ∨ 250 < length.toNat)
  | .laneFrameReceived _ bytes => !bytes.isEmpty
  | .answer _ bytes => !bytes.isEmpty
  | .controlFrameReceived bytes => !bytes.isEmpty
  | _ => true

end Sys2Proof
end

