-- ==== Sys2Proof/Certificates/Slice0/Obligations.lean ====
section
/-! DEFINITION. The statements about the part, chapter by chapter. `takesCommand` is the condition under
which the controller passes a command on: reset line released, no command in service, no RESTART under way.
Statements marked "model" rest on a log entry of notes/assumptions. -/

section

open Sys2Proof Sys2Proof.Machine

/-! ## The queue of commands, and whole-machine properties -/

/-- A step carries out the command at the front of the queue on the state with the queue's rest; with none
waiting the part idles (model, log entry 1). -/
def Obligations.StepTakesTheFrontCommand : Prop :=
  (∀ (i : Instr) (rest : List Instr) (s : State), s.pending = i :: rest →
    step s = exec i { s with pending := rest }) ∧
  ∀ s : State, s.pending = [] → step s = .next s

/-- Every command has a next state in every state, and leaves the queue of waiting commands alone: no rule
of the document halts the part. -/
def Obligations.NoCommandStopsOrTouchesTheQueue : Prop :=
  ∀ (i : Instr) (s : State), ∃ t, exec i s = .next t ∧ t.pending = s.pending

/-! ## Resets (01, 11) -/

/-- The reset line going low cuts off the frame being sent; while it is held nothing happens but its release,
and its release gives the state after reset, with READY its first message (R11, R182; model, log entry 6). -/
def Obligations.ResetLineHoldsThePart : Prop :=
  (∀ s : State,
    exec .hardwareReset s =
      .next { s with resetHeld := true, control := { s.control with tx := none } } ∧
    (s.resetHeld = true →
      exec .resetRelease s =
        .next { State.reset with freeCount := s.freeCount, pending := s.pending }) ∧
    (s.resetHeld = false → exec .resetRelease s = .next s)) ∧
  ∀ (i : Instr) (s : State), s.resetHeld = true → i ≠ .hardwareReset → i ≠ .resetRelease →
    exec i s = .next s

/-- The values the document gives every block after a hardware reset (R11, R13, R28, R56, R67, R75, R94,
R111, R113, R136, R148, R165, R172, R181, R182). -/
def Obligations.ResetLeavesTheStatedValues : Prop :=
  let s := State.reset
  (s.timing.lock = .free ∧ s.timing.selected = false ∧ s.timing.source = .internal ∧
    s.timing.held = none ∧ s.timing.goodRun = 0 ∧ s.timing.badRun = 0 ∧
    s.timing.holdoverEntries = 0 ∧ s.timing.stationTime = 0 ∧ s.timing.framePhase = 0 ∧
    s.timing.boundaryDue = true) ∧
  (∀ p, s.port p =
    { cls := .unused, trim := 1024, master := 1024, isolated := false
      profile := { threshold := none, depth := 256, attack := 96, hold := 4800, release := 480 }
      pendingProfile := none, cancel := none, panel := none, binding := none
      clipLatch := false, clipCount := 0 }) ∧
  (∀ d, s.into d = [] ∧
    s.duck d = { state := .opened, factor := 1024, step := none, holdRemaining := 0
                 trigger := false }) ∧
  (s.writer.state = .free ∧ s.writer.talkPos = none ∧ s.writer.hostPos = none ∧
    s.writer.progress = none ∧ s.writer.staging = []) ∧
  (∀ k, (s.slot k).owner = none) ∧
  (∀ b, (s.buffer b).owner = none) ∧
  s.probe =
    { engine := .idle, queue := [], level := 1000000, threshold := 100000, settle := 0
      run := none } ∧
  (∀ l,
    (s.line l).pollList = 0 ∧ (s.line l).lastPolled = none ∧ (s.line l).inProgress = none ∧
    (s.line l).filterMode = .single ∧
    (s.line l).singleCode = 0 ∧ (s.line l).singleMask = BitVec.allOnes 20 ∧
    (s.line l).codeA = 0 ∧ (s.line l).maskA = BitVec.allOnes 12 ∧
    (s.line l).codeB = 0 ∧ (s.line l).maskB = BitVec.allOnes 12 ∧ (s.line l).answerErrors = 0 ∧
    (∀ a, s.panel l a =
      { present := false, missRun := 0, pollsSinceTally := 0, lastTally := none
        lastHeld := none }) ∧
    s.keyQueue l =
      { records := [], bytesUsed := 0, count := 0, overrun := false, headInService := false }) ∧
  (s.arbiter.talks = [] ∧ s.arbiter.pendingEnds = [] ∧ s.arbiter.work = none ∧
    s.arbiter.jobInFlight = none ∧ s.arbiter.hostWaiting = none ∧ s.arbiter.lastLine = none) ∧
  (∀ g, s.group g = []) ∧
  (∀ l a k,
    (s.key ⟨l, a, k⟩).entry.function = .noFunction ∧ (s.key ⟨l, a, k⟩).entry.target = none ∧
    (s.key ⟨l, a, k⟩).state = .idle ∧ (s.key ⟨l, a, k⟩).pressStamp = none ∧
    (s.key ⟨l, a, k⟩).longMark = false ∧ (s.key ⟨l, a, k⟩).timer = none) ∧
  s.stationId = 0 ∧
  (∀ l, (s.lane l).state = .off ∧ (s.lane l).enable = false ∧ (s.lane l).boundPort = none ∧
    (s.lane l).pref = .either ∧ (s.lane l).abilities = { tight := true, robust := true } ∧
    (s.lane l).role = none ∧ (s.lane l).profile = none ∧ (s.lane l).unitHeld = none ∧
    (s.lane l).consecutiveErrors = 0 ∧ (s.lane l).txSeq = 0) ∧
  (s.health.settings =
      { interval := 10, threshold := 10, hardCount := 4, autoGuard := false, retention := 360 } ∧
    s.health.sweepStart = 0 ∧
    ∀ l, s.healthRec l =
      { errors := 0, syndromeAnd := BitVec.allOnes 16, syndromeOr := 0, syndromesSeen := false
        framesAccepted := false, cls := .good, badRun := 0, cleanRun := 0, lastSweep := none }) ∧
  s.units = [] ∧
  (s.control.rxPhase = .hunt ∧ s.control.fifo = [] ∧ s.control.lineErrors = 0) ∧
  s.reports.dropped = 0 ∧ s.unsentReplies = [] ∧ s.unsentReports = [⟨.ready .power 0, 0⟩]

/-- RESTART: its reply is formed and no further command is taken; when the reply has been sent, every block
takes its reset values but the timing unit, the unit history and the receiver, and READY with cause RESTART
is the first report, with dropped field 0 (R12, R172, R183). -/
def Obligations.RestartKeepsTheTimeBaseAndTheUnits : Prop :=
  ∀ s : State,
    (∀ tag : Byte, s.takesCommand = true →
      Completes (.restart tag) s { s with control := { s.control with restart := .replying } } tag
        Kind.restart .ok) ∧
    (s.resetHeld = false → s.control.restart = .effectDue →
      exec .restartTakeEffect s =
        .next
          { State.reset with
            timing := s.timing
            health := { State.reset.health with sweepStart := s.timing.stationTime }
            units := s.units.map fun e =>
              { e with connected := false, retentionLeft := some 360 }
            control :=
              { s.control with
                service := none, restart := .none, replies := []
                tx := some (.report ⟨.ready .restart s.timing.stationTime, 0⟩) }
            freeCount := s.freeCount
            pending := s.pending }) ∧
    (s.control.restart ≠ .effectDue → exec .restartTakeEffect s = .next s)

/-! ## The control line (11) -/

/-- A whole frame received in HUNT joins the FIFO if its check matches and the FIFO holds fewer than 8
frames, and otherwise counts one line error; bytes may come in any number of pieces. A gap in LENGTH or
COLLECT, and in LENGTH a byte outside 2..250, drop the frame, count one line error and return the receiver to
HUNT (R177). In another phase a gap or a LENGTH_OUT_OF_RANGE changes nothing: it is not due there (model, log
entry 3). -/
def Obligations.ReceiverTakesFramesWhole : Prop :=
  (∀ (s : State) (f : ControlFrame) (check : Byte), s.resetHeld = false →
    s.control.rxPhase = .hunt → f.body.length ≤ 248 →
    let counted := BitVec.ofNat 8 (f.body.length + 2) :: f.kind :: f.tag :: f.body
    let ready : Control := { s.control with rxBytes := [] }
    exec (.controlFrameReceived (0xC5#8 :: counted ++ [check])) s =
      .next { s with control :=
        if check = controlCheck counted ∧ s.control.fifo.length < 8 then
          { ready with fifo := s.control.fifo ++ [f] }
        else { ready with lineErrors := min 255 (s.control.lineErrors + 1) } }) ∧
  (∀ (s : State) (junk : List Byte), s.control.rxPhase = .hunt → (∀ b ∈ junk, b ≠ 0xC5#8) →
    exec (.controlFrameReceived junk) s = .next s) ∧
  (∀ (s : State) (first last : List Byte), ∃ t,
    exec (.controlFrameReceived first) s = .next t ∧
      exec (.controlFrameReceived last) t = exec (.controlFrameReceived (first ++ last)) s) ∧
  ∀ (s : State) (length : Byte), s.resetHeld = false →
    let dropped : State :=
      { s with control :=
          { s.control with
            rxPhase := .hunt, rxBytes := [], lineErrors := min 255 (s.control.lineErrors + 1) } }
    (s.control.rxPhase ≠ .hunt → exec .lineGapTimeout s = .next dropped) ∧
    (s.control.rxPhase = .hunt → exec .lineGapTimeout s = .next s) ∧
    (length.toNat < 2 ∨ 250 < length.toNat →
      (s.control.rxPhase = .length →
        exec (.lengthOutOfRange length) s = .next dropped ∧
          exec (.controlFrameReceived [length]) s = .next dropped) ∧
      (s.control.rxPhase ≠ .length → exec (.lengthOutOfRange length) s = .next s))

/-- The oldest frame leaves the FIFO and is answered UNKNOWN-KIND or BAD-LENGTH, refused with BAD-ARG, or
carried out exactly as the row of the command it carries. UNKNOWN-KIND is for a kind that is no command kind;
BAD-LENGTH for a body whose length is not the one its kind, section, mode, member count or settings require. A
command that comes while another is in service, RESTART is under way or the reset line is held changes nothing
(R178, R183; model, log entry 2). -/
def Obligations.DispatchJudgesTheOldestFrame : Prop :=
  (∀ (s : State) (f : ControlFrame) (rest : List ControlFrame), s.takesCommand = true →
    s.control.fifo = f :: rest →
    let popped : State := { s with control := { s.control with fifo := rest } }
    (∀ i, judgeFrame f = .command i → exec .commandDispatch s = exec i popped) ∧
    ((f.kind.toNat = 0 ∨ 0x25 < f.kind.toNat) →
      Completes .commandDispatch s popped f.tag f.kind .unknownKind) ∧
    (judgeFrame f = .badLength → Completes .commandDispatch s popped f.tag f.kind .badLength) ∧
    (judgeFrame f = .badArg → Completes .commandDispatch s popped f.tag f.kind .badArg)) ∧
  (∀ f : ControlFrame,
    let kind := f.kind.toNat
    let length := f.body.length
    let byte1 := (f.body.getD 1 0).toNat
    let fixedLength : List (Nat × Nat) :=
      [(0x01, 0), (0x02, 0), (0x03, 5), (0x04, 0), (0x05, 1), (0x06, 0), (0x08, 1), (0x09, 5),
        (0x0A, 2), (0x0B, 2), (0x0C, 0), (0x0D, 5), (0x0E, 0), (0x0F, 0), (0x11, 1), (0x12, 10),
        (0x13, 3), (0x15, 3), (0x16, 2), (0x17, 1), (0x18, 1), (0x19, 8), (0x1A, 2), (0x1B, 3),
        (0x1C, 1), (0x1D, 2), (0x1E, 1), (0x20, 1), (0x21, 0), (0x22, 9), (0x23, 1), (0x24, 1),
        (0x25, 1)]
    let fits : Prop :=
      (kind, length) ∈ fixedLength ∨
      (kind = 0x07 ∧ 2 ≤ length ∧ ∀ n, [3, 6, 3, 11, 6, 4, 11][byte1]? = some n → length = n) ∨
      (kind = 0x10 ∧ 2 ≤ length ∧ length = 2 + byte1) ∨
      (kind = 0x14 ∧ 2 ≤ length ∧ ∀ n, [8, 10][byte1]? = some n → length = n) ∨
      (kind = 0x1F ∧ (length = 1 ∨ length = 7))
    (judgeFrame f = .unknownKind ↔ kind = 0 ∨ 0x25 < kind) ∧
      (judgeFrame f = .badLength ↔ 1 ≤ kind ∧ kind ≤ 0x25 ∧ ¬ fits)) ∧
  (∀ s : State, s.control.fifo = [] ∨ s.takesCommand = false →
    exec .commandDispatch s = .next s) ∧
  ∀ (i : Instr) (f : ControlFrame) (s : State), i.frame? = some f → s.takesCommand = false →
    exec i s = .next s

/-- Every well-formed host command is read back from its frame with every operand, and the frame's kind is
a command kind and its body at most 248 bytes long (R178, 11 section 11.6). -/
def Obligations.FrameOfACommandReadsBack : Prop :=
  ∀ (i : Instr) (f : ControlFrame), i.wellFormed = true → i.frame? = some f →
    judgeFrame f = .command i ∧ f.body.length ≤ 248 ∧ 1 ≤ f.kind.toNat ∧ f.kind.toNat ≤ 0x25

/-- A host command sent over the control line as the bytes of its frame does exactly what its row does:
received and dispatched, it leaves what the command leaves (R177, R178). -/
def Obligations.BytesOnTheLineCarryTheCommandOut : Prop :=
  ∀ (i : Instr) (f : ControlFrame) (s : State), i.wellFormed = true → i.frame? = some f →
    s.takesCommand = true → s.control.rxPhase = .hunt → s.control.fifo = [] →
    ∃ t, exec (.controlFrameReceived f.wire) s = .next t ∧
      exec .commandDispatch t = exec i { s with control := { s.control with rxBytes := [] } }

/-- When a frame has been sent, a waiting reply goes next, otherwise the oldest report leaves the queue and
is sent, otherwise the line is idle; after the reply of a RESTART the restart is to take effect (R180, R183).
On the line a reply is a control frame of kind 80h with the command's tag, the result code's value and the
command's kind before its fields, a report one of its own kind with the dropped field for a tag; the result
codes have the values 00h to 0Ah (R178, R181; model, log entry 8 for the bytes of the fields). -/
def Obligations.TransmitterSendsRepliesFirst : Prop :=
  ∀ (s : State) (f : TxFrame), s.resetHeld = false → s.control.tx = some f →
    (s.control.restart = .none ∨ (s.control.restart = .replying ∧ s.control.replies ≠ []) →
      (∀ r rs, s.control.replies = r :: rs →
        exec .transmitComplete s =
          .next { s with control := { s.control with replies := rs, tx := some (.reply r) } }) ∧
      (∀ q qs, s.control.replies = [] → s.reports.queue = q :: qs →
        exec .transmitComplete s =
          .next { s with
            control := { s.control with tx := some (.report q) }
            reports := { s.reports with queue := qs } }) ∧
      (s.control.replies = [] → s.reports.queue = [] →
        exec .transmitComplete s = .next { s with control := { s.control with tx := none } })) ∧
    (∀ r, f = .reply r → s.control.restart = .replying → s.control.replies = [] →
      exec .transmitComplete s =
        .next { s with control := { s.control with tx := none, restart := .effectDue } }) ∧
    f.wire =
      (let counted : List Byte :=
        match f with
        | .reply r =>
          BitVec.ofNat 8 (r.fields.bytes.length + 4) :: 0x80#8 :: r.tag :: r.code.value :: r.kind ::
            r.fields.bytes
        | .report q =>
          BitVec.ofNat 8 (q.report.bytes.length + 2) :: q.report.kind :: BitVec.ofNat 8 q.dropped ::
            q.report.bytes
       0xC5#8 :: counted ++ [controlCheck counted]) ∧
    [ResultCode.ok, .clamped, .busy, .badArg, .noRoom, .inUse, .notQuiet, .wrongClass, .duplicate,
      .unknownKind, .badLength].map ResultCode.value = [0, 1, 2, 3, 4, 5, 6, 7, 8, 9, 10]

/-- IDENTIFY, LINE-GET and STATION-ID-SET: IDENTIFY carries the part code 6424, 64 ports, 24 lanes and the
station identity; LINE-GET its four values, and the line errors are then 0; STATION-ID-SET replaces the
station identity; CLOCK-GET reads the timing unit, and the holdover entries count is then 0 (R10, R136, R181;
model, log entry 11 for the held period's unit). -/
def Obligations.IdentityLineAndClockReadings : Prop :=
  ∀ (tag : Byte) (s : State), s.takesCommand = true →
    Completes (.clockGet tag) s { s with timing := { s.timing with holdoverEntries := 0 } } tag
      Kind.clockGet .ok
      (.clock
        { lock := s.timing.lock, selected := s.timing.selected, source := s.timing.source
          held := s.timing.held, goodRun := s.timing.goodRun, badRun := s.timing.badRun
          holdoverEntries := s.timing.holdoverEntries, stationTime := s.timing.stationTime }) ∧
    Completes (.identify tag) s s tag Kind.identify .ok (.identity 6424 64 24 s.stationId) ∧
    Completes (.lineGet tag) s { s with control := { s.control with lineErrors := 0 } } tag
      Kind.lineGet .ok
      (.lineState s.control.lineErrors s.reports.dropped s.reports.queue.length
        s.control.fifo.length) ∧
    ∀ identity : Ident,
      Completes (.stationIdSet tag identity) s { s with stationId := identity } tag
        Kind.stationIdSet .ok

/-! ## Station timing (01) -/

/-- CLOCK-SET REFERENCE acts in FREE alone and CLOCK-SET FREE in the other lock states alone; each then
queues one CLOCK-STATE with the station time of the next sample period; anywhere else it is answered OK and
changes nothing (R3, R7; model, log entries 38 for `recentGood` and 42 for the held period in ACQUIRE). -/
def Obligations.ClockSetByLockState : Prop :=
  ∀ (tag : Byte) (s : State), s.takesCommand = true →
    let t := s.timing
    (t.lock = .free →
      (∃ u, exec (.clockSetReference tag) s = .next u ∧
        s.FormsReplies u [⟨tag, Kind.clockSet, .ok, .empty⟩] ∧
        s.QueuesReport u (.clockState .free .acquire (t.stationTime + 1)) ∧
        State.IsBut
          { s with timing :=
              { t with selected := true, lock := .acquire, source := .internal, goodRun := 0
                       recentGood := [] } } u) ∧
      Completes (.clockSetFree tag) s s tag Kind.clockSet .ok) ∧
    (t.lock ≠ .free →
      Completes (.clockSetReference tag) s s tag Kind.clockSet .ok ∧
      ∃ u, exec (.clockSetFree tag) s = .next u ∧
        s.FormsReplies u [⟨tag, Kind.clockSet, .ok, .empty⟩] ∧
        s.QueuesReport u (.clockState t.lock .free (t.stationTime + 1)) ∧
        State.IsBut
          { s with timing :=
              { t with
                selected := false, lock := .free, source := .internal, goodRun := 0
                recentGood := []
                held := if t.lock = .acquire then t.held else none
                badRun := if t.lock = .acquire then t.badRun else 0 } } u)

/-- A reference period is good where no early edge was discarded and its edge comes between 99% and 101%
of the nominal period. In ACQUIRE a good one adds to the good run, the 64th in a row locks the unit with the
mean of those kept, and a bad one sets the run to 0; with no selection, or in FREE, nothing is judged (R2,
R4, R7; model, log entry 11 for the mean's unit). -/
def Obligations.AcquireLocksOnTheSixtyFourthGoodPeriod : Prop :=
  (∀ (p : RefPeriod) (offset : Int), goodPeriod? p = some offset ↔
    p.earlyEdge = false ∧ p.edge = some offset ∧ -10000 ≤ offset ∧ offset ≤ 10000) ∧
  ∀ (p : RefPeriod) (s : State), s.resetHeld = false →
    let t := s.timing
    (t.selected = false ∨ t.lock = .free →
      exec (.referencePeriodJudgement p) s = .next s) ∧
    (t.selected = true → t.lock = .acquire →
      (goodPeriod? p = none →
        exec (.referencePeriodJudgement p) s =
          .next { s with timing := { t with goodRun := 0, recentGood := [] } }) ∧
      ∀ offset, goodPeriod? p = some offset →
        (t.goodRun < 63 →
          exec (.referencePeriodJudgement p) s =
            .next { s with timing :=
              { t with goodRun := t.goodRun + 1
                       recentGood := keepRecent t.recentGood offset } }) ∧
        (63 ≤ t.goodRun → ∃ u, exec (.referencePeriodJudgement p) s = .next u ∧
          s.Offers u (.clockState .acquire .locked (t.stationTime + 1)) ∧
          State.IsBut
            { s with timing :=
                { t with
                  lock := .locked, source := .reference, goodRun := 0, badRun := 0
                  held := some (keepRecent t.recentGood offset).sum
                  recentGood := keepRecent t.recentGood offset } } u))

/-- In LOCKED a good period renews the mean, and the eighth bad one in a row moves the unit to HOLDOVER,
counts one entry, queues CLOCK-STATE and ends a running probe: its PROBE-RESULT follows with result CLOCK, no
delay, the stage and candidate of its round and the rounds run, its port's slot is zero-filled, and the other
slots stay; in HOLDOVER a good period moves it to ACQUIRE with good run 1 on the held clock, and a bad one
changes nothing (R5, R6, R7, R73, R88, R91; model, log entries 11, 30 and 35). -/
def Obligations.LockedAndHoldoverJudgements : Prop :=
  ∀ (p : RefPeriod) (s : State), s.resetHeld = false → s.timing.selected = true →
    let t := s.timing
    let holdover : Timing :=
      { t with lock := .holdover, source := .held, badRun := 0
               holdoverEntries := min 255 (t.holdoverEntries + 1) }
    (t.lock = .locked →
      (∀ offset, goodPeriod? p = some offset →
        exec (.referencePeriodJudgement p) s =
          .next { s with timing :=
            { t with badRun := 0, held := some (keepRecent t.recentGood offset).sum
                     recentGood := keepRecent t.recentGood offset } }) ∧
      (goodPeriod? p = none → t.badRun < 7 →
        exec (.referencePeriodJudgement p) s =
          .next { s with timing := { t with badRun := t.badRun + 1 } }) ∧
      (goodPeriod? p = none → 7 ≤ t.badRun → ∃ u, exec (.referencePeriodJudgement p) s = .next u ∧
        (s.probe.run = none →
          s.Offers u (.clockState .locked .holdover (t.stationTime + 1)) ∧
            State.IsBut { s with timing := holdover } u) ∧
        (∀ r, s.probe.run = some r →
          s.FormsReplies u [] ∧
          s.QueuesReports u
            [.clockState .locked .holdover (t.stationTime + 1),
              .probeResult r.port .clock none (some (r.stage, r.candidate)) r.rounds
                t.stationTime] ∧
          (∀ c, (s.port r.port).cancel = some c →
            u.slot c.slot = { s.slot c.slot with history := [] } ∧
              ∀ k, k ≠ c.slot → u.slot k = s.slot k) ∧
          ((s.port r.port).cancel = none → u.cancel = s.cancel) ∧
          State.IsBut
            { s with
              timing := holdover
              probe := { s.probe with run := none, engine := .settling, settle := 4112 }
              cancel := u.cancel } u))) ∧
    (t.lock = .holdover →
      (goodPeriod? p = none → exec (.referencePeriodJudgement p) s = .next s) ∧
      ∀ offset, goodPeriod? p = some offset → ∃ u,
        exec (.referencePeriodJudgement p) s = .next u ∧
          s.Offers u (.clockState .holdover .acquire (t.stationTime + 1)) ∧
          State.IsBut
            { s with timing :=
                { t with lock := .acquire, goodRun := 1, recentGood := [offset] } } u)

/-! ## Ports (02) -/

/-- PORT-SET CLASS: refused BAD-ARG, IN-USE (the four cases of R15) or NO-ROOM, answered OK without a change
for the present class, and otherwise the class-dependent sections are rebuilt: the lowest free Path Buffer
and an empty binding for REMOTE, a reset record and Duck Unit for UNUSED, the rest kept, and the return
sources that name a port leaving FEED made absent (R15, R16, R21). -/
def Obligations.ClassChangeRebuildsTheSections : Prop :=
  (∀ (s : State) (p : PortNo), s.portInUse p = true ↔
    (∃ d, ∃ e ∈ s.into d, e.source = p ∨ d = p) ∨
    (∃ t ∈ s.arbiter.talks, t.talkingPort = p ∨ p ∈ t.targets) ∨
    p ∈ s.probe.queue ∨ (∃ r, s.probe.run = some r ∧ r.port = p) ∨ (s.port p).boundLanes ≠ []) ∧
  ∀ (tag port cls : Byte) (s : State), s.takesCommand = true →
    (64 ≤ port.toNat ∨ 5 ≤ cls.toNat →
      Completes (.portSetClass tag port cls) s s tag Kind.portSet .badArg) ∧
    ∀ (p : PortNo) (c : PortClass), port.toNat = p.val → portClass? cls = some c →
      (c = (s.port p).cls → Completes (.portSetClass tag port cls) s s tag Kind.portSet .ok) ∧
      (c ≠ (s.port p).cls → s.portInUse p = true →
        Completes (.portSetClass tag port cls) s s tag Kind.portSet .inUse) ∧
      (c ≠ (s.port p).cls → s.portInUse p = false → c = .remote →
        (∀ b, (s.buffer b).owner ≠ none) →
        Completes (.portSetClass tag port cls) s s tag Kind.portSet .noRoom) ∧
      (c ≠ (s.port p).cls → s.portInUse p = false →
        (c = .remote → ∃ b, (s.buffer b).owner = none) →
        ∃ t, exec (.portSetClass tag port cls) s = .next t ∧
          s.FormsReplies t [⟨tag, Kind.portSet, .ok, .empty⟩] ∧
          (t.port p).cls = c ∧ (t.port p).panel = none ∧
          (c = .remote → ∃ b, (s.buffer b).owner = none ∧
            (∀ b', (s.buffer b').owner = none → b ≤ b') ∧
            (t.port p).binding = some { buffer := b } ∧ t.buffer b = { owner := some p }) ∧
          (c ≠ .remote → (t.port p).binding = none) ∧
          (c = .unused → t.port p = {} ∧ t.duck p = {} ∧
            ∀ x, (s.port p).cancel = some x → (t.slot x.slot).owner = none) ∧
          (∀ q, q ≠ p → t.duck q = s.duck q) ∧
          (c ≠ .unused → t.ducks = s.ducks ∧ t.port p =
            { s.port p with cls := c, panel := none, binding := (t.port p).binding }) ∧
          (∀ b, (s.port p).cls = .remote → (s.port p).binding = some b →
            t.buffer b.buffer = {}) ∧
          (∀ q, q ≠ p → t.port q =
            { s.port q with cancel :=
              if (s.port p).cls = .feed then
                (s.port q).cancel.map fun x =>
                  if x.returnSource = some p then { x with returnSource := none } else x
              else (s.port q).cancel }) ∧
          State.IsBut
            { s with ports := t.ports, ducks := t.ducks, buffers := t.buffers
                     cancel := t.cancel, probe := t.probe } t)

/-- PORT-SET LEVELS is accepted for any port, clamps trim and master to 0..4095, and writes both whole;
PORT-GET reads the record, and the clip latch and count are then clear and 0 (R14, R17, R26, R179). -/
def Obligations.LevelsAreClampedAndRead : Prop :=
  ∀ (tag port : Byte) (trim master : Half) (s : State), s.takesCommand = true →
    (64 ≤ port.toNat →
      Completes (.portSetLevels tag port trim master) s s tag Kind.portSet .badArg ∧
        Completes (.portGet tag port) s s tag Kind.portGet .badArg) ∧
    ∀ p : PortNo, port.toNat = p.val →
      Completes (.portSetLevels tag port trim master) s
        (s.modPort p fun x =>
          { x with trim := min 4095 trim.toNat, master := min 4095 master.toNat })
        tag Kind.portSet
        (if trim.toNat ≤ 4095 ∧ master.toNat ≤ 4095 then .ok else .clamped) ∧
      Completes (.portGet tag port) s
        (s.modPort p fun x => { x with clipLatch := false, clipCount := 0 })
        tag Kind.portGet .ok (.port (s.port p))

/-- PORT-SET ISOLATE: a change of the flag re-states every entry touching the port by R35 and leaves its
claims alone; ON aborts a probe on the port or on a port whose return source it is (R18, R35, R36, R90). The
invariant of R28 stands as a premise. -/
def Obligations.IsolateRestatesEveryEntryOfThePort : Prop :=
  ∀ (tag port onOff : Byte) (s : State), s.takesCommand = true → s.CrosspointsSound →
    (64 ≤ port.toNat ∨ 2 ≤ onOff.toNat →
      Completes (.portSetIsolate tag port onOff) s s tag Kind.portSet .badArg) ∧
    ∀ (p : PortNo) (isolate : Bool), port.toNat = p.val → onOff? onOff = some isolate →
      ((s.port p).cls = .unused →
        Completes (.portSetIsolate tag port onOff) s s tag Kind.portSet .wrongClass) ∧
      ((s.port p).cls ≠ .unused → (s.port p).isolated = isolate →
        Completes (.portSetIsolate tag port onOff) s s tag Kind.portSet .ok) ∧
      ((s.port p).cls ≠ .unused → (s.port p).isolated ≠ isolate →
        ∃ t, exec (.portSetIsolate tag port onOff) s = .next t ∧
          s.FormsReplies t [⟨tag, Kind.portSet, .ok, .empty⟩] ∧
          (t.port p).isolated = isolate ∧ (∀ q, q ≠ p → (t.port q).isolated = (s.port q).isolated) ∧
          (∀ d, ∀ e ∈ t.into d, e.source = p ∨ d = p → e.state = t.entryState e.source d) ∧
          (∀ d, (t.into d).map Entry.contents = (s.into d).map Entry.contents) ∧
          (∀ d, d ≠ p → ∀ e ∈ s.into d, e.source ≠ p → e ∈ t.into d) ∧
          ((isolate = true ∧ ∃ r, s.probe.run = some r ∧ (r.port = p ∨ r.returnSource = p)) →
            t.probe.run = none ∧ t.probe.engine = .settling ∧ t.probe.settle = 4112) ∧
          (¬ (isolate = true ∧ ∃ r, s.probe.run = some r ∧ (r.port = p ∨ r.returnSource = p)) →
            s.QueuesNoReport t ∧ t.probe = s.probe ∧ t.cancel = s.cancel) ∧
          State.IsBut
            { s with ports := t.ports, ducks := t.ducks, xp := t.xp, arbiter := t.arbiter
                     lanes := t.lanes, probe := t.probe, cancel := t.cancel } t)

/-- PORT-SET DUCK: the clamped profile is in force at once in OPEN, where a trigger present under it starts
the attack, and is pending in any other duck state (R19, R59, R65). -/
def Obligations.DuckProfileAppliesInOpen : Prop :=
  ∀ (tag port threshold : Byte) (depth attack hold release : Half) (s : State),
    s.takesCommand = true →
    let cmd : Instr := .portSetDuck tag port threshold depth attack hold release
    (64 ≤ port.toNat ∨ (3 < threshold.toNat ∧ threshold ≠ 0xFF#8) ∨ threshold = 0 →
      Completes cmd s s tag Kind.portSet .badArg) ∧
    ∀ (p : PortNo) (th : Option XpClass), port.toNat = p.val →
      (th = none ∧ threshold = 0xFF#8 ∨
        ∃ c : XpClass, th = some c ∧ c ≠ 0 ∧ threshold.toNat = c.val) →
      let profile : DuckProfile :=
        { threshold := th
          depth := min 1024 depth.toNat
          attack := min 4800 attack.toNat
          hold := min 48000 hold.toNat
          release := min 48000 release.toNat }
      let code : ResultCode :=
        if depth.toNat ≤ 1024 ∧ attack.toNat ≤ 4800 ∧ hold.toNat ≤ 48000 ∧ release.toNat ≤ 48000
        then .ok else .clamped
      let inForce : State :=
        s.modPort p fun x => { x with profile := profile, pendingProfile := none }
      ((s.port p).cls = .unused → Completes cmd s s tag Kind.portSet .wrongClass) ∧
      ((s.port p).cls ≠ .unused → (s.duck p).state = .opened →
        (triggerOf profile (s.into p) = false →
          Completes cmd s
            { inForce with ducks := s.ducks.set p { s.duck p with trigger := false } } tag
            Kind.portSet code) ∧
        (triggerOf profile (s.into p) = true → profile.attack = 0 →
          Completes cmd s
            { inForce with
              ducks := s.ducks.set p { s.duck p with
                trigger := true, state := .ducked, factor := profile.depth, step := none } }
            tag Kind.portSet code) ∧
        (triggerOf profile (s.into p) = true → profile.attack ≠ 0 →
          Completes cmd s
            { inForce with
              ducks := s.ducks.set p { s.duck p with
                trigger := true, state := .attack
                step := some ((1024 - profile.depth + profile.attack - 1) / profile.attack) } }
            tag Kind.portSet code)) ∧
      ((s.port p).cls ≠ .unused → (s.duck p).state ≠ .opened →
        Completes cmd s (s.modPort p fun x => { x with pendingProfile := some profile }) tag
          Kind.portSet code)

/-- PORT-SET CANCEL ON: refused BAD-ARG, WRONG-CLASS or NO-ROOM; a port without a section gets one on the
lowest free slot, zero-filled; a port with one keeps slot, history and delay, and a change of return source
aborts its running probe, a loss of it takes the port from the queue (R20, R67; model, log entry 30 for the
time of the report of a port that never ran). -/
def Obligations.CancelOnTakesTheLowestFreeSlot : Prop :=
  ∀ (tag port : Byte) (level : Half) (returnSource : Byte) (s : State), s.takesCommand = true →
    let cmd : Instr := .portSetCancelOn tag port level returnSource
    let code : ResultCode := if level.toNat ≤ 1024 then .ok else .clamped
    (64 ≤ port.toNat ∨ (64 ≤ returnSource.toNat ∧ returnSource ≠ 0xFF#8) ∨ returnSource = port →
      Completes cmd s s tag Kind.portSet .badArg) ∧
    ∀ (p : PortNo) (source : Option PortNo), port.toNat = p.val → source ≠ some p →
      (source = none ∧ returnSource = 0xFF#8 ∨
        ∃ q : PortNo, source = some q ∧ returnSource.toNat = q.val) →
      ((s.port p).cls = .unused ∨ (∃ q, source = some q ∧ (s.port q).cls ≠ .feed) →
        Completes cmd s s tag Kind.portSet .wrongClass) ∧
      ((s.port p).cls ≠ .unused → (∀ q, source = some q → (s.port q).cls = .feed) →
        ((s.port p).cancel = none → (∀ k, (s.slot k).owner ≠ none) →
          Completes cmd s s tag Kind.portSet .noRoom) ∧
        (∀ k, (s.port p).cancel = none → (s.slot k).owner = none →
          (∀ k', (s.slot k').owner = none → k ≤ k') →
          Completes cmd s
            ((s.modSlot k fun _ => { owner := some p, history := [] }).modPort p fun x =>
              { x with cancel := some ⟨k, min 1024 level.toNat, source, none⟩ })
            tag Kind.portSet code) ∧
        ∀ c, (s.port p).cancel = some c →
          let section_ : CancelSection :=
            { c with level := min 1024 level.toNat, returnSource := source }
          let changed : State := s.modPort p fun x => { x with cancel := some section_ }
          ((source = c.returnSource ∨ s.underProbe p = false) →
            (source ≠ none ∨ p ∉ s.probe.queue) →
            Completes cmd s changed tag Kind.portSet code) ∧
          (source ≠ c.returnSource → s.underProbe p = true →
            ∃ t, exec cmd s = .next t ∧ s.FormsReplies t [⟨tag, Kind.portSet, code, .empty⟩] ∧
              t.probe.run = none ∧ t.probe.engine = .settling ∧ t.probe.settle = 4112 ∧
              t.ports = changed.ports ∧
              State.IsBut { changed with probe := t.probe, cancel := t.cancel } t) ∧
          (source = none → s.underProbe p = false → p ∈ s.probe.queue →
            ∃ t, exec cmd s = .next t ∧ s.FormsReplies t [⟨tag, Kind.portSet, code, .empty⟩] ∧
              s.QueuesReport t (.probeResult p .aborted none none 0 s.timing.stationTime) ∧
              State.IsBut
                { changed with
                  probe := { s.probe with queue := s.probe.queue.filter (· ≠ p) } } t))

/-- PORT-SET CANCEL OFF removes the section and frees its slot, takes the port from the probe queue with
its report, and aborts its running probe; without a section it changes nothing (R21, R67; model, log entries
30 for the time of the report of a port that never ran and 45 for the bytes of a CANCEL body with OFF). -/
def Obligations.CancelOffFreesTheSlot : Prop :=
  ∀ (tag port : Byte) (s : State), s.takesCommand = true →
    (64 ≤ port.toNat → Completes (.portSetCancelOff tag port) s s tag Kind.portSet .badArg) ∧
    ∀ p : PortNo, port.toNat = p.val →
      ((s.port p).cancel = none →
        Completes (.portSetCancelOff tag port) s s tag Kind.portSet .ok) ∧
      ∀ c, (s.port p).cancel = some c →
        let removed : State :=
          (s.modSlot c.slot fun k => { k with owner := none }).modPort p fun x =>
            { x with cancel := none }
        (s.underProbe p = false → p ∉ s.probe.queue →
          Completes (.portSetCancelOff tag port) s removed tag Kind.portSet .ok) ∧
        (s.underProbe p = false → p ∈ s.probe.queue →
          ∃ t, exec (.portSetCancelOff tag port) s = .next t ∧
            s.FormsReplies t [⟨tag, Kind.portSet, .ok, .empty⟩] ∧
            s.QueuesReport t (.probeResult p .aborted none none 0 s.timing.stationTime) ∧
            State.IsBut
              { removed with
                probe := { s.probe with queue := s.probe.queue.filter (· ≠ p) } } t) ∧
        (∀ r, s.probe.run = some r → r.port = p → p ∉ s.probe.queue →
          ∃ t, exec (.portSetCancelOff tag port) s = .next t ∧
            s.FormsReplies t [⟨tag, Kind.portSet, .ok, .empty⟩] ∧
            s.QueuesReport t
              (.probeResult p .aborted none (some (r.stage, r.candidate)) r.rounds
                s.timing.stationTime) ∧
            State.IsBut
              { removed with
                probe := { s.probe with run := none, engine := .settling, settle := 4112 } } t)

/-- PORT-SET PANEL binds or unbinds a PANEL port: WRONG-CLASS for another class, DUPLICATE where another
PANEL port has the address, IN-USE for the talking port of a talk (R24; model, log entry 14 for half a
NONE). -/
def Obligations.PanelBindingIsExclusive : Prop :=
  ∀ (tag port line addr : Byte) (s : State), s.takesCommand = true →
    let cmd : Instr := .portSetPanel tag port line addr
    (64 ≤ port.toNat ∨ ((2 ≤ line.toNat ∨ 16 ≤ addr.toNat) ∧ ¬ (line = 0xFF#8 ∧ addr = 0xFF#8)) →
      Completes cmd s s tag Kind.portSet .badArg) ∧
    ∀ (p : PortNo) (panel : Option (LineNo × PanelAddr)), port.toNat = p.val →
      (panel = none ∧ line = 0xFF#8 ∧ addr = 0xFF#8 ∨
        ∃ l a, panel = some (l, a) ∧ line.toNat = l.val ∧ addr.toNat = a.val) →
      ((s.port p).cls ≠ .panel → Completes cmd s s tag Kind.portSet .wrongClass) ∧
      ((s.port p).cls = .panel →
        (panel ≠ none ∧ (∃ q, q ≠ p ∧ (s.port q).cls = .panel ∧ (s.port q).panel = panel) →
          Completes cmd s s tag Kind.portSet .duplicate) ∧
        (panel = none ∨ (∀ q, q ≠ p → (s.port q).cls = .panel → (s.port q).panel ≠ panel) →
          ((∃ t ∈ s.arbiter.talks, t.talkingPort = p) →
            Completes cmd s s tag Kind.portSet .inUse) ∧
          ((∀ t ∈ s.arbiter.talks, t.talkingPort ≠ p) →
            Completes cmd s (s.modPort p fun x => { x with panel := panel }) tag Kind.portSet
              .ok)))

/-- PORT-SET LANES writes the binding with the lead at the new primary: lanes that leave go OFF and are
unbound, lanes that join are bound and start a handshake if they are enabled, lanes that stay keep their
states; a port or lane out of range, a backup without a primary or equal to it is BAD-ARG, another class
WRONG-CLASS, another port's lane IN-USE (R25, R149; model, log entry 36). -/
def Obligations.LaneBindingMovesTheLanes : Prop :=
  ∀ (tag port primary backup : Byte) (identity : Option Ident) (depth : Byte) (s : State),
    s.takesCommand = true →
    let cmd : Instr := .portSetLanes tag port primary backup identity depth
    (64 ≤ port.toNat ∨ (24 ≤ primary.toNat ∧ primary ≠ 0xFF#8) ∨
      (24 ≤ backup.toNat ∧ backup ≠ 0xFF#8) ∨
      (backup ≠ 0xFF#8 ∧ (primary = 0xFF#8 ∨ primary = backup)) →
      Completes cmd s s tag Kind.portSet .badArg) ∧
    ∀ (p : PortNo) (first second : Option LaneNo), port.toNat = p.val →
      (first = none ∧ primary = 0xFF#8 ∨ ∃ l : LaneNo, first = some l ∧ primary.toNat = l.val) →
      (second = none ∧ backup = 0xFF#8 ∨ ∃ l : LaneNo, second = some l ∧ backup.toNat = l.val) →
      (second ≠ none → first ≠ none ∧ first ≠ second) →
      ((s.port p).cls ≠ .remote → Completes cmd s s tag Kind.portSet .wrongClass) ∧
      ∀ b, (s.port p).cls = .remote → (s.port p).binding = some b →
        let new := first.toList ++ second.toList
        let old := b.primary.toList ++ b.backup.toList
        ((∃ l ∈ new, ∃ q, (s.lane l).boundPort = some q ∧ q ≠ p) →
          Completes cmd s s tag Kind.portSet .inUse) ∧
        ((∀ l ∈ new, ∀ q, (s.lane l).boundPort = some q → q = p) →
          ∃ t, exec cmd s = .next t ∧
            s.Answers t tag Kind.portSet
              (if 2 ≤ depth.toNat ∧ depth.toNat ≤ 8 then .ok else .clamped) ∧
            (t.port p).binding = some
              { b with
                primary := first, backup := second, expected := identity, lead := first
                depth := max 2 (min 8 depth.toNat) } ∧
            (∀ q, q ≠ p → (t.port q).binding = (s.port q).binding) ∧
            (∀ l, l ∈ old → l ∉ new →
              (t.lane l).state = .off ∧ (t.lane l).boundPort = none) ∧
            (∀ l, l ∈ new → l ∉ old →
              (t.lane l).boundPort = some p ∧
                ((s.lane l).enable = true → (t.lane l).state = .seek) ∧
                ((s.lane l).enable = false → (t.lane l).state = (s.lane l).state)) ∧
            (∀ l, (l ∈ new ↔ l ∈ old) →
              (t.lane l).state = (s.lane l).state ∧
                (t.lane l).boundPort = (s.lane l).boundPort) ∧
            State.IsBut
              { s with ports := t.ports, ducks := t.ducks, xp := t.xp, arbiter := t.arbiter
                       lanes := t.lanes, buffers := t.buffers, units := t.units } t)

/-! ## Crosspoints and the Table Writer (03) -/

/-- XP-SET, XP-CLEAR and SCENE-COMMIT: refused in the order of R40, R41 and R50, and otherwise in service
with a host job in the host position, their replies still to come (R40, R41, R50, R53, R178). -/
def Obligations.HostJobsWaitInTheHostPosition : Prop :=
  ∀ (tag src dst : Byte) (level : Half) (cls : Byte) (s : State), s.takesCommand = true →
    let waits (kind : Byte) (clamped : Bool) (purpose : Purpose) (ops : List ClaimOp) : State :=
      { s with
        control := { s.control with service := some ⟨tag, kind, clamped⟩ }
        writer := { s.writer with hostPos := some { purpose := purpose, ops := ops } } }
    (64 ≤ src.toNat ∨ 64 ≤ dst.toNat ∨ src = dst →
      Completes (.xpSet tag src dst level cls) s s tag Kind.xpSet .badArg ∧
        Completes (.xpClear tag src dst) s s tag Kind.xpClear .badArg) ∧
    (4 ≤ cls.toNat → Completes (.xpSet tag src dst level cls) s s tag Kind.xpSet .badArg) ∧
    (∀ (a b : PortNo) (c : XpClass), src.toNat = a.val → dst.toNat = b.val → a ≠ b →
      cls.toNat = c.val →
      ((s.port a).cls = .unused ∨ (s.port b).cls = .unused →
        Completes (.xpSet tag src dst level cls) s s tag Kind.xpSet .wrongClass) ∧
      ((s.port a).cls ≠ .unused → (s.port b).cls ≠ .unused →
        (s.writer.state = .committing →
          Completes (.xpSet tag src dst level cls) s s tag Kind.xpSet .busy) ∧
        (s.writer.state ≠ .committing →
          exec (.xpSet tag src dst level cls) s =
            .next (waits Kind.xpSet (decide (4095 < level.toNat)) (.xpSet a b)
              [.place a b .fixed (min 4095 level.toNat) c])))) ∧
    (∀ a b : PortNo, src.toNat = a.val → dst.toNat = b.val → a ≠ b →
      (s.writer.state = .committing →
        Completes (.xpClear tag src dst) s s tag Kind.xpClear .busy) ∧
      (s.writer.state ≠ .committing →
        exec (.xpClear tag src dst) s =
          .next (waits Kind.xpClear false .xpClear [.withdraw a b .fixed]))) ∧
    (s.writer.state = .committing →
      Completes (.sceneCommit tag) s s tag Kind.sceneCommit .busy) ∧
    (s.writer.state ≠ .committing →
      exec (.sceneCommit tag) s = .next (waits Kind.sceneCommit false .sceneCommit []))

/-- SCENE-BEGIN, SCENE-ABANDON and SCENE-ENTRY: BUSY while a commit is in flight; otherwise the first two
empty the staging area, and an entry replaces the one of its pair in place, is appended, or finds 512 and is
refused with NO-ROOM (R48, R49). -/
def Obligations.ScenesAreStaged : Prop :=
  ∀ (tag src dst : Byte) (level : Half) (cls : Byte) (s : State), s.takesCommand = true →
    let cmd : Instr := .sceneEntry tag src dst level cls
    let code : ResultCode := if level.toNat ≤ 4095 then .ok else .clamped
    let staged (list : List Staged) : State := { s with writer := { s.writer with staging := list } }
    (s.writer.state = .committing →
      Completes (.sceneBegin tag) s s tag Kind.sceneBegin .busy ∧
        Completes (.sceneAbandon tag) s s tag Kind.sceneAbandon .busy) ∧
    (s.writer.state ≠ .committing →
      Completes (.sceneBegin tag) s (staged []) tag Kind.sceneBegin .ok ∧
        Completes (.sceneAbandon tag) s (staged []) tag Kind.sceneAbandon .ok) ∧
    (64 ≤ src.toNat ∨ 64 ≤ dst.toNat ∨ 4 ≤ cls.toNat →
      Completes cmd s s tag Kind.sceneEntry .badArg) ∧
    ∀ (a b : PortNo) (c : XpClass), src.toNat = a.val → dst.toNat = b.val → cls.toNat = c.val →
      (s.writer.state = .committing → Completes cmd s s tag Kind.sceneEntry .busy) ∧
      (s.writer.state ≠ .committing →
        ((∃ x ∈ s.writer.staging, x.src = a ∧ x.dst = b) →
          Completes cmd s
            (staged (s.writer.staging.map fun x =>
              if x.src = a ∧ x.dst = b then ⟨a, b, min 4095 level.toNat, c⟩ else x))
            tag Kind.sceneEntry code) ∧
        ((∀ x ∈ s.writer.staging, ¬ (x.src = a ∧ x.dst = b)) →
          (512 ≤ s.writer.staging.length → Completes cmd s s tag Kind.sceneEntry .noRoom) ∧
          (s.writer.staging.length < 512 →
            Completes cmd s (staged (s.writer.staging ++ [⟨a, b, min 4095 level.toNat, c⟩])) tag
              Kind.sceneEntry code)))

/-- The FREE Table Writer takes a waiting talk job first, otherwise the host job; taking a SCENE-COMMIT
begins the commit at destination 0 and forms its reply at that moment (R32, R50; model, log entry 31). -/
def Obligations.WriterTakesTalkJobsFirst : Prop :=
  ∀ s : State, s.resetHeld = false →
    (s.writer.state ≠ .free ∨ (s.writer.talkPos = none ∧ s.writer.hostPos = none) →
      exec .jobTake s = .next s) ∧
    (s.writer.state = .free →
      (∀ j, s.writer.talkPos = some j →
        exec .jobTake s = .next { s with writer := { s.writer with state := .servingTalk } }) ∧
      (∀ j, s.writer.talkPos = none → s.writer.hostPos = some j → j.purpose ≠ .sceneCommit →
        exec .jobTake s = .next { s with writer := { s.writer with state := .servingHost } }) ∧
      ∀ j v, s.writer.talkPos = none → s.writer.hostPos = some j → j.purpose = .sceneCommit →
        s.control.service = some v →
        Completes .jobTake s
          { s with
            control := { s.control with service := none }
            writer :=
              { s.writer with
                state := .committing, hostPos := none, progress := some 0, applied := 0
                skipped := 0, lowestSkipped := none } }
          v.tag v.kind .ok)

/-- CLAIM_PLACE takes the first of the eight cases of R29: SELF, REFUSED, update, FULL, join, FULL, FULL,
create. A placement that succeeds leaves every other entry's claims alone, and where neither port has lanes
every other entry whole; its outcome joins the job's (R27, R29, R33, R39). -/
def Obligations.PlacementTakesTheFirstCase : Prop :=
  ∀ (s : State) (j : Job) (src dst : PortNo) (origin : Origin) (level : Nat) (cls : XpClass)
    (rest : List ClaimOp), s.resetHeld = false → s.jobServed? = some j →
    j.ops = .place src dst origin level cls :: rest →
    let claim : Claim := ⟨origin, level, cls⟩
    let served (outcome : PlaceOutcome) : State := s.modJobServed fun j =>
      { j with ops := rest, results := j.results ++ [⟨src, dst, origin, outcome⟩] }
    let places (row : List Entry) (outcome : PlaceOutcome) : Prop :=
      ∃ t, exec .claimPlace s = .next t ∧ s.Silent t ∧
        (t.into dst).map Entry.contents = row.map Entry.contents ∧
        (∀ d, d ≠ dst → (t.into d).map Entry.contents = (s.into d).map Entry.contents) ∧
        ((s.port src).boundLanes = [] → (s.port dst).boundLanes = [] →
          t.xp = s.xp.set dst row ∧ t.lanes = s.lanes ∧ t.arbiter = s.arbiter) ∧
        State.IsBut
          { s with xp := t.xp, ports := t.ports, ducks := t.ducks, lanes := t.lanes
                   arbiter := t.arbiter, writer := (served outcome).writer } t
    let rewritten (claims : List Claim) : List Entry :=
      (s.into dst).map fun x => if x.source = src then x.withClaims claims else x
    (src = dst → exec .claimPlace s = .next (served .self)) ∧
    (src ≠ dst → (s.port src).cls = .unused ∨ (s.port dst).cls = .unused →
      exec .claimPlace s = .next (served .refused)) ∧
    (src ≠ dst → (s.port src).cls ≠ .unused → (s.port dst).cls ≠ .unused →
      (∀ e, s.entry? src dst = some e →
        (e.hasOrigin origin = true →
          places (rewritten (e.claims.map fun c => if c.origin = origin then claim else c))
            (placedOutcome e.state)) ∧
        (e.hasOrigin origin = false → 8 ≤ e.claims.length →
          exec .claimPlace s = .next (served .full)) ∧
        (e.hasOrigin origin = false → e.claims.length < 8 →
          places (rewritten (e.claims ++ [claim])) (placedOutcome e.state))) ∧
      (s.entry? src dst = none →
        (32 ≤ (s.into dst).length ∨ 1024 ≤ s.entryCount →
          exec .claimPlace s = .next (served .full)) ∧
        ((s.into dst).length < 32 → s.entryCount < 1024 →
          places
            (s.into dst ++
              [{ source := src, claims := [claim], level := level, cls := cls
                 state := s.entryState src dst }])
            (placedOutcome (s.entryState src dst)))))

/-- CLAIM_WITHDRAW removes the claim of the origin, and the entry with its last claim; CLAIM_LEVEL_CHANGE
sets the level of a talk's claims on the pairs that hold one. Claims of other origins and pairs stay, and a
pair without the claim is left alone (R27, R30, R31). The invariant of R28 stands as a premise. -/
def Obligations.WithdrawalAndLevelChange : Prop :=
  ∀ (s : State) (j : Job) (rest : List ClaimOp), s.resetHeld = false → s.CrosspointsSound →
    s.jobServed? = some j →
    let served : State := s.modJobServed fun j => { j with ops := rest }
    let leaves (i : Instr) (rows : PortNo → List Entry) : Prop :=
      ∃ t, exec i s = .next t ∧ s.Silent t ∧
        (∀ d, (t.into d).map Entry.contents = (rows d).map Entry.contents) ∧
        State.IsBut
          { s with xp := t.xp, ports := t.ports, ducks := t.ducks, lanes := t.lanes
                   arbiter := t.arbiter, writer := served.writer } t
    (∀ src dst origin, j.ops = .withdraw src dst origin :: rest →
      ((∀ e, s.entry? src dst = some e → e.hasOrigin origin = false) →
        exec .claimWithdraw s = .next served) ∧
      ∀ e, s.entry? src dst = some e → e.hasOrigin origin = true →
        let left := e.claims.filter fun c => c.origin ≠ origin
        leaves .claimWithdraw fun d =>
          if d = dst then
            if left = [] then (s.into dst).filter fun x => x.source ≠ src
            else (s.into dst).map fun x => if x.source = src then x.withClaims left else x
          else s.into d) ∧
    (∀ id level pairs, j.ops = .levelChange id level pairs :: rest →
      leaves .claimLevelChange fun d =>
        (s.into d).map fun e =>
          if (e.source, d) ∈ pairs ∧ e.hasOrigin (.talk id) = true then
            e.withClaims
              (e.claims.map fun c => if c.origin = .talk id then { c with level := level } else c)
          else e)

/-- WRITE_JOB_COMPLETE for the host's crosspoint jobs: the position is freed, the writer FREE, and the reply
carries the entry's state for a placement that stands, or NO-ROOM for FULL; XP-CLEAR is answered OK (R33, R40,
R41; model, log entries 34 for REFUSED and SELF and 46 for the moment at which the state is read). -/
def Obligations.HostJobsCompleteWithTheirReplies : Prop :=
  ∀ (s : State) (j : Job) (v : Service), s.resetHeld = false →
    s.writer.state = .servingHost → s.writer.hostPos = some j → j.ops = [] →
    s.control.service = some v →
    let freed : State :=
      { s with
        control := { s.control with service := none }
        writer := { s.writer with state := .free, hostPos := none } }
    (∀ src dst r others, j.purpose = .xpSet src dst → j.results = r :: others →
      (r.outcome = .ok ∨ r.outcome = .parked →
        Completes .writeJobComplete s freed v.tag v.kind (if v.clamped then .clamped else .ok)
          (.entryState (s.entryState src dst))) ∧
      (r.outcome = .full → Completes .writeJobComplete s freed v.tag v.kind .noRoom) ∧
      (r.outcome = .refused → Completes .writeJobComplete s freed v.tag v.kind .wrongClass) ∧
      (r.outcome = .self → Completes .writeJobComplete s freed v.tag v.kind .badArg)) ∧
    (j.purpose = .xpClear → Completes .writeJobComplete s freed v.tag v.kind .ok)

/-- WRITE_JOB_COMPLETE for a talk's begin job: the outcomes are recorded and moved by the notices held, the
talk is ACTIVE, TALK-BEGIN carries them, the key record in service leaves its queue or the host is answered,
and a talk with an end requested is then ENDING and joins the pending end list (R33, R105, R119, R127). -/
def Obligations.BeginJobMakesTheTalkActive : Prop :=
  ∀ (s : State) (j : Job) (k : Talk), s.resetHeld = false →
    s.writer.state = .servingTalk → s.writer.talkPos = some j → j.ops = [] →
    j.purpose = .beginTalk k.id → s.talk? k.id = some k → k.function ≠ .call →
    let active : Talk :=
      { (k.heldNotices.foldl Machine.Talk.applyNotice
          { k with outcomes := some (j.results.map PlaceResult.outcome) }) with
        heldNotices := [], phase := .active }
    ∃ t, exec .writeJobComplete s = .next t ∧
      (k.endRequested = none →
        t.talk? k.id = some active ∧ t.arbiter.pendingEnds = s.arbiter.pendingEnds) ∧
      (∀ reason, k.endRequested = some reason →
        t.talk? k.id = some { active with phase := .ending, endReason := some reason } ∧
          t.arbiter.pendingEnds = s.arbiter.pendingEnds ++ [k.id]) ∧
      (∀ id, id ≠ k.id → t.talk? id = s.talk? id) ∧
      t.arbiter.talks.map Talk.id = s.arbiter.talks.map Talk.id ∧
      t.arbiter.jobInFlight = none ∧
      s.QueuesReport t
        (.talkBegin k.id active.maker active.function active.target (active.outcomes.getD [])) ∧
      (∀ l r, s.arbiter.work = some (.record l r) → s.FormsReplies t [] ∧ t.arbiter.work = none ∧
        t.keyQueues = s.keyQueues.set l (s.keyQueue l).removeHead ∧ t.control.service =
          s.control.service) ∧
      (∀ w v, s.arbiter.work = some (.host w) → s.control.service = some v →
        s.FormsReplies t
          [⟨v.tag, v.kind, if v.clamped then .clamped else .ok,
            .outcomes (active.outcomes.getD [])⟩] ∧
        t.arbiter.work = none ∧ t.keyQueues = s.keyQueues ∧ t.control.service = none) ∧
      State.IsBut
        { s with
          arbiter :=
            { s.arbiter with
              talks := t.arbiter.talks, pendingEnds := t.arbiter.pendingEnds
              jobInFlight := none, work := t.arbiter.work }
          keyQueues := t.keyQueues
          control := { s.control with service := t.control.service }
          writer := { s.writer with state := .free, talkPos := none } } t

/-- WRITE_JOB_COMPLETE for a talk's end job and for a level step: the talk leaves the list and TALK-END
carries its reason, then a TALK-DROP in service is answered OK; a level step removes its key record (R33,
R117, R122, R128). -/
def Obligations.EndAndLevelJobsComplete : Prop :=
  ∀ (s : State) (j : Job), s.resetHeld = false →
    s.writer.state = .servingTalk → s.writer.talkPos = some j → j.ops = [] →
    let writer : Writer := { s.writer with state := .free, talkPos := none }
    (∀ k reason, j.purpose = .endTalk k.id → s.talk? k.id = some k → k.endReason = some reason →
      let gone : Arbiter :=
        { s.arbiter with
          talks := s.arbiter.talks.filter fun x => x.id ≠ k.id, jobInFlight := none }
      ∃ t, exec .writeJobComplete s = .next t ∧
        s.QueuesReport t (.talkEnd k.id k.maker reason) ∧
        ((∀ w, s.arbiter.work ≠ some (.host w)) →
          s.FormsReplies t [] ∧ State.IsBut { s with arbiter := gone, writer := writer } t) ∧
        (∀ w v, s.arbiter.work = some (.host w) → s.control.service = some v →
          s.FormsReplies t [⟨v.tag, v.kind, .ok, .empty⟩] ∧
            State.IsBut
              { s with
                arbiter := { gone with work := none }, writer := writer
                control := { s.control with service := none } } t)) ∧
    (∀ id l r, j.purpose = .levelStep id → s.arbiter.work = some (.record l r) →
      exec .writeJobComplete s =
        .next
          { s with
            arbiter := { s.arbiter with jobInFlight := none, work := none }
            keyQueues := s.keyQueues.set l (s.keyQueue l).removeHead
            writer := writer })

/-- COMMIT_DESTINATION has a next state in every commit: the FIXED claims of the destination that the scene does
not stage are withdrawn, then its staged entries are placed in index order, each as CLAIM_PLACE places; one that
comes to SELF, REFUSED or FULL is skipped, any other applied, and the lowest index skipped is kept. One from its
own destination or at an UNUSED port is always skipped, and with room for all none is. The FIXED claims are then
those staged and not skipped, TALK claims and other destinations' claims stay, and the progress moves on, at most
one waiting talk job being served first, its operations done in order and its talk begun or ended, which leaves
every FIXED claim; after destination 63 SCENE-DONE carries
the counts, the staging area is empty and the writer FREE (R51, R52, R54; model, log entry 31 for the counts kept
in the writer). The invariant of R28 stands as a premise, and for a talk job that it holds claims of talks
alone. -/
def Obligations.CommitGoesDestinationByDestination : Prop :=
  ∀ (s : State) (d : PortNo), s.resetHeld = false → s.CrosspointsSound →
    s.writer.state = .committing → s.writer.progress = some d →
    let w := s.writer
    let mine : List (Staged × Nat) := w.staging.zipIdx.filter fun x => decide (x.1.dst = d)
    let unstaged : List PortNo :=
      ((s.into d).filter fun e =>
        e.hasOrigin .fixed && !(mine.any fun x => decide (x.1.src = e.source))).map Entry.source
    let cleared : State := unstaged.foldl (fun u src => u.withdrawClaim src d .fixed) s
    let placed : State × List (Nat × PlaceOutcome) :=
      mine.foldl
        (fun u x =>
          let r := u.1.placeClaim x.1.src d .fixed x.1.level x.1.cls
          (r.1, u.2 ++ [(x.2, r.2)]))
        (cleared, [])
    let skips : List Nat :=
      (placed.2.filter fun x => decide (x.2 ≠ .ok ∧ x.2 ≠ .parked)).map Prod.fst
    let applied := w.applied + (mine.length - skips.length)
    let skipped := w.skipped + skips.length
    let low := (w.lowestSkipped.toList ++ skips).min?
    let moved : Writer :=
      { w with
        progress := some (d + 1), applied := applied, skipped := skipped, lowestSkipped := low }
    (∀ x ∈ mine, x.1.src = d ∨ (s.port x.1.src).cls = .unused ∨ (s.port d).cls = .unused →
      x.2 ∈ skips) ∧
    ((∀ x ∈ mine, x.1.src ≠ d ∧ (s.port x.1.src).cls ≠ .unused) → (s.port d).cls ≠ .unused →
      (mine.map fun x => x.1.src).Nodup → (∀ e ∈ s.into d, e.claims.length < 8) →
      (s.into d).length + mine.length ≤ 32 → s.entryCount + mine.length ≤ 1024 → skips = []) ∧
    ∃ t, exec .commitDestination s = .next t ∧
      (w.talkPos = none ∨ d = 63 →
        State.IsBut { placed.1 with writer := t.writer } t ∧
        (d.val < 63 → s.Silent t ∧ t.writer = moved) ∧
        (d = 63 → s.Offers t (.sceneDone applied skipped low) ∧ t.writer =
          { w with
            state := .free, progress := none, staging := [], applied := 0, skipped := 0
            lowestSkipped := none }) ∧
        (∀ e ∈ s.into d, ∀ c ∈ e.claims, c.origin ≠ .fixed →
          ∃ e' ∈ t.into d, e'.source = e.source ∧ c ∈ e'.claims) ∧
        (∀ d', d' ≠ d → (t.into d').map Entry.contents = (s.into d').map Entry.contents) ∧
        State.IsBut
          { s with xp := t.xp, ports := t.ports, ducks := t.ducks, lanes := t.lanes
                   arbiter := t.arbiter, writer := t.writer } t) ∧
      (∀ j, w.talkPos = some j → d.val < 63 →
        t.writer = { moved with talkPos := none } ∧
        (let served : State := j.ops.foldl (fun u op => (u.performOp op).1) placed.1
         ∀ d', (t.into d').map Entry.contents = (served.into d').map Entry.contents) ∧
        (∀ k reason, j.purpose = .endTalk k.id → s.talk? k.id = some k →
          k.endReason = some reason →
          t.arbiter.jobInFlight = none ∧ s.QueuesReport t (.talkEnd k.id k.maker reason) ∧
            t.arbiter.talks.map Talk.id = (s.arbiter.talks.map Talk.id).filter (· ≠ k.id)) ∧
        (∀ k, j.purpose = .beginTalk k.id → s.talk? k.id = some k →
          t.arbiter.jobInFlight = none ∧
            (t.talk? k.id).map Talk.phase =
              some (if k.endRequested = none then .active else .ending))) ∧
      (w.talkPos = none ∨ d = 63 ∨ s.TalkJobSound →
        (∀ d', State.fixedClaims (t.into d') = State.fixedClaims (placed.1.into d')) ∧
        (∀ e ∈ t.into d, e.hasOrigin .fixed = true → ∃ x ∈ mine, x.1.src = e.source) ∧
        ((mine.map fun x => x.1.src).Nodup → ∀ x ∈ mine, x.2 ∉ skips →
          ∃ e ∈ t.into d, e.source = x.1.src ∧
            (⟨.fixed, x.1.level, x.1.cls⟩ : Claim) ∈ e.claims))

/-! ## The mix (02, 03, 04) -/

/-- Each mix pass ends its sample period: station time wraps at 2 to the 32, the frame phase runs 0..47, and
phase 0 makes a frame boundary due; the running probe or its settle period advances by the pass; no reply is
formed, and only ports, ducks, outputs, cancel slots, the probe, silence timers and the timing unit may
change (R8, R9, R83, R84, R89; model, log entries 4 and 5). -/
def Obligations.MixPassAdvancesThePeriod : Prop :=
  ∀ (inputs : Table 64 (BitVec 24)) (s : State), s.resetHeld = false →
    ∃ t, exec (.mixPass inputs) s = .next t ∧ s.FormsReplies t [] ∧
      t.timing =
        { s.timing with
          stationTime := BitVec.ofNat 32 (s.timing.stationTime.toNat + 1)
          framePhase := s.timing.framePhase + 1
          boundaryDue := s.timing.boundaryDue || decide (s.timing.framePhase.val = 47) } ∧
      t.timing.framePhase.val = (s.timing.framePhase.val + 1) % 48 ∧
      (∀ l, t.lane l =
        { s.lane l with silenceTimer := (s.lane l).silenceTimer.map fun n => n - 1 }) ∧
      t.mix.framePasses = (t.mix.outputs :: s.mix.framePasses).take 48 ∧
      t.mix.lastFrame = s.mix.lastFrame ∧
      (∀ r, s.probe.engine = .running → s.probe.run = some r →
        (r.phase = .marker → r.passes < r.candidate + 16 → t.probe.run = some
          { r with
            passes := r.passes + 1
            seen :=
              if r.candidate ≤ r.passes ∧
                  r.threshold ≤ (s.conditionedInput inputs r.returnSource).natAbs
              then r.seen + 1 else r.seen }) ∧
        (r.phase = .gap → r.passes < 4112 →
          t.probe.run = some { r with passes := r.passes + 1 })) ∧
      (s.probe.engine = .settling → t.probe = { s.probe with settle := s.probe.settle - 1 }) ∧
      State.IsBut
        { s with timing := t.timing, ports := t.ports, ducks := t.ducks, mix := t.mix
                 cancel := t.cancel, probe := t.probe, lanes := t.lanes } t

/-- The conditioned input of a port and its output sample, as R22, R44, R45 and R46 give them: trim, terms of
the LIVE entries alone with the duck factor, less the cancel term, scaled by the master level and saturated;
every output lies in the sample range, and is 0 for an UNUSED or isolated port. -/
def Obligations.OutputsFollowTheMixRules : Prop :=
  ∀ (inputs : Table 64 (BitVec 24)) (s : State), s.resetHeld = false →
    let x := s.conditionedInput inputs
    let factor (d : PortNo) (e : Entry) : Nat :=
      match (s.port d).profile.threshold with
      | some th => if e.cls < th then duckFactor (s.port d, s.duck d) else 1024
      | none => 1024
    (∀ p,
      ((s.port p).cls = .unused ∨ (s.port p).isolated = true → x p = 0) ∧
      ((s.port p).cls ≠ .unused → (s.port p).isolated = false →
        (∀ r, s.probe.run = some r → r.port = p → x p = r.marker) ∧
        ((∀ r, s.probe.run = some r → r.port ≠ p) →
          x p = max (-8388608)
            (min 8388607 ((s.rawSample inputs p * (s.port p).trim + 512) / 1024))))) ∧
    ∃ t, exec (.mixPass inputs) s = .next t ∧ ∀ d,
      -8388608 ≤ t.mix.outputs.get d ∧ t.mix.outputs.get d ≤ 8388607 ∧
      ((s.port d).cls = .unused ∨ (s.port d).isolated = true → t.mix.outputs.get d = 0) ∧
      ((s.port d).cls ≠ .unused → (s.port d).isolated = false →
        let terms := ((s.into d).filter fun e => e.state = .live).map fun e =>
          (x e.source * e.level * factor d e + 524288) / 1048576
        let mix := terms.sum - (s.recordSlots (s.conditionedInputs inputs)).cancelTerm d
        t.mix.outputs.get d =
          max (-8388608) (min 8388607 ((mix * (s.port d).master + 512) / 1024)))

/-- A pass that saturates a port's output counts one clip, at most 65,535, and sets the latch; a latch that
was clear queues one CLIP with the pass's station time, a latch already set none (R47). The duck profile
apart, a pass leaves the rest of the port record alone. -/
def Obligations.ClipsAreCountedOncePerPass : Prop :=
  ∀ (inputs : Table 64 (BitVec 24)) (s : State), s.resetHeld = false →
    let x := s.conditionedInputs inputs
    let mix (d : PortNo) : Int := (s.recordSlots x).scaledMix x d
    let clips (d : PortNo) : Prop :=
      (s.port d).cls ≠ .unused ∧ (s.port d).isolated = false ∧
        (mix d < -8388608 ∨ 8388607 < mix d)
    ∃ t, exec (.mixPass inputs) s = .next t ∧
      (∀ d, clips d → (t.port d).clipLatch = true ∧
        (t.port d).clipCount = min 65535 ((s.port d).clipCount + 1)) ∧
      (∀ d, ¬ clips d → (t.port d).clipLatch = (s.port d).clipLatch ∧
        (t.port d).clipCount = (s.port d).clipCount) ∧
      (∀ d, t.port d =
        { s.port d with
          clipLatch := (t.port d).clipLatch, clipCount := (t.port d).clipCount
          profile := (t.port d).profile, pendingProfile := (t.port d).pendingProfile }) ∧
      ((∀ d, clips d → (s.port d).clipLatch = true) → s.QueuesNoReport t) ∧
      (∀ d, clips d → (s.port d).clipLatch = false →
        (∀ d', d' ≠ d → clips d' → (s.port d').clipLatch = true) →
        s.QueuesReport t (.clip d s.timing.stationTime))

/-- Each pass advances a used port's Duck Unit by one step of its ramp or hold: ATTACK falls to the depth and
is then DUCKED, HOLD counts down, RELEASE rises to 1024 and then enters OPEN, where a pending profile is
applied and a trigger present under it starts the attack; HOLD_EXPIRY begins the release once the hold has run
out (R58, R59, R60, R62, R63, R64; model, log entries 5 for a hold that waits at 0 for its expiry and 3 for an
expiry that is not due). -/
def Obligations.DuckUnitsAdvanceOneStepAPass : Prop :=
  ∀ (inputs : Table 64 (BitVec 24)) (p : PortNo) (s : State), s.resetHeld = false →
    let u := s.duck p
    let profile := (s.port p).profile
    let applied := (s.port p).pendingProfile.getD profile
    let step := u.step.getD 0
    let reopened : Duck :=
      if triggerOf applied (s.into p) = true then
        if applied.attack = 0 then
          { state := .ducked, factor := applied.depth, step := none, holdRemaining := 0
            trigger := true }
        else
          { state := .attack, factor := 1024
            step := some ((1024 - applied.depth + applied.attack - 1) / applied.attack)
            holdRemaining := 0, trigger := true }
      else { state := .opened, factor := 1024, step := none, holdRemaining := 0, trigger := false }
    (∃ t, exec (.mixPass inputs) s = .next t ∧
      ((s.port p).cls = .unused ∨ u.state = .opened →
        t.duck p = u ∧ (t.port p).profile = profile) ∧
      ((s.port p).cls ≠ .unused →
        (u.state = .attack → t.duck p =
          { u with
            factor := max profile.depth (u.factor - step)
            state := if u.factor - step ≤ profile.depth then .ducked else .attack }) ∧
        (u.state = .ducked → t.duck p = { u with factor := profile.depth }) ∧
        (u.state = .hold → t.duck p = { u with holdRemaining := u.holdRemaining - 1 }) ∧
        (u.state = .release → u.factor + step < 1024 →
          t.duck p = { u with factor := u.factor + step }) ∧
        (u.state = .release → 1024 ≤ u.factor + step →
          (t.port p).profile = applied ∧ (t.port p).pendingProfile = none ∧
            t.duck p = reopened))) ∧
    (u.state = .hold → u.holdRemaining = 0 → profile.release ≠ 0 →
      exec (.holdExpiry p) s =
        .next { s with
          ducks := s.ducks.set p { u with
            state := .release
            step := some ((1024 - profile.depth + profile.release - 1) / profile.release)
            holdRemaining := 0 } }) ∧
    (u.state = .hold → u.holdRemaining = 0 → profile.release = 0 →
      exec (.holdExpiry p) s =
        .next
          { s with
            ports := s.ports.set p { s.port p with profile := applied, pendingProfile := none }
            ducks := s.ducks.set p reopened }) ∧
    (u.state ≠ .hold ∨ u.holdRemaining ≠ 0 → exec (.holdExpiry p) s = .next s)

/-- Every allocated slot records its owner's conditioned input at the low 12 bits of the pass's station time
and keeps its other positions; a free slot records nothing. The cancel term reads the position of the locked
delay, and is 0 while the port is probed or has no section or delay (R68, R69, R70, R72). The one form of the
histories stands as a premise. -/
def Obligations.CancelSlotsRecordThePass : Prop :=
  ∀ (inputs : Table 64 (BitVec 24)) (s : State), s.resetHeld = false → s.CancelSound →
    (∃ t, exec (.mixPass inputs) s = .next t ∧ ∀ k,
      (t.slot k).owner = (s.slot k).owner ∧
      ((s.slot k).owner = none → t.slot k = s.slot k) ∧
      ∀ p, (s.slot k).owner = some p →
        (t.slot k).read (s.timing.stationTime.toNat % 4096) = s.conditionedInput inputs p ∧
        ∀ pos, pos ≠ s.timing.stationTime.toNat % 4096 →
          (t.slot k).read pos = (s.slot k).read pos) ∧
    ∀ p : PortNo,
      ((s.port p).cancel = none → s.cancelTerm p = 0) ∧
      ∀ c, (s.port p).cancel = some c →
        (c.lockedDelay = none ∨ s.underProbe p = true → s.cancelTerm p = 0) ∧
        ∀ delay, c.lockedDelay = some delay → s.underProbe p = false →
          s.cancelTerm p =
            ((s.slot c.slot).read
                ((s.timing.stationTime - BitVec.ofNat 32 delay).toNat % 4096) *
              c.level + 512) / 1024

/-- FRAME_BOUNDARY, once in each frame: the frame's outputs become the last complete frame; lanes in SEEK and
OFFER, and lanes the part leads in PAGES, LIVE, DOZE-HOLD and WAKING, and every sixteenth time in DOZE, send
one frame under their transmit sequence, which then rises; BARRED counts fall, to 0 at the least; a running
Path Buffer plays position q and moves on: the lead's copy, otherwise the other lane's, zeros before the start
sequence, otherwise a concealment block of the last good one at a half, a quarter and then 0; a copy of another
lane than the last counts one path switch on the lane played, and the eighth block concealed in a row queues one
PORT-DROPOUT where a bound lane is LIVE; a stopped buffer presents zeros (R9, R130, R131, R151, R161, R163, R164;
model, log entries 4, 22, 26, 27, 50, and 5 for a BARRED lane that waits at 0 for its expiry). -/
def Obligations.FrameBoundarySendsAndPlays : Prop :=
  ∀ s : State, s.resetHeld = false →
    let lead (p : PortNo) : Option LaneNo := (s.port p).binding.bind LaneBinding.lead
    let early (b : PathBuf) (q : Byte) : Prop :=
      ∃ start, b.startSeq = some start ∧ 1 ≤ (start - q).toNat ∧ (start - q).toNat ≤ 7
    let switches (k : BufNo) (l : LaneNo) : Prop :=
      let b := s.buffer k
      b.running = true ∧ (∃ m, b.lastLane = some m ∧ m ≠ l) ∧
      ∃ p q, b.owner = some p ∧ b.position = some q ∧
        ((lead p = some l ∧ ∃ block, (l, block) ∈ b.copies q) ∨
          ((∀ c ∈ b.copies q, lead p ≠ some c.1) ∧
            ∃ block rest, b.copies q = (l, block) :: rest))
    let drops (k : BufNo) (p : PortNo) : Prop :=
      let b := s.buffer k
      b.owner = some p ∧ b.running = true ∧
        (∃ q, b.position = some q ∧ b.copies q = [] ∧ ¬ early b q) ∧ b.concealRun = 7 ∧
        b.dropoutReported = false ∧ ∃ l ∈ (s.port p).boundLanes, (s.lane l).state = .live
    (s.timing.boundaryDue = false → exec .frameBoundary s = .next s) ∧
    (s.timing.boundaryDue = true → ∃ t, exec .frameBoundary s = .next t ∧
      s.FormsReplies t [] ∧
      t.timing = { s.timing with boundaryDue := false } ∧
      t.mix = { s.mix with lastFrame := s.mix.framePasses.reverse, framePasses := [] } ∧
      (∀ l,
        let x := s.lane l
        let y := t.lane l
        (x.state = .off ∨ (x.role ≠ some .lead ∧ x.state ≠ .seek ∧ x.state ≠ .offer ∧
            x.state ≠ .barred) →
          y = { x with pathSwitches := y.pathSwitches }) ∧
        (x.state = .barred →
          y = { x with barredCount := x.barredCount - 1, pathSwitches := y.pathSwitches }) ∧
        (x.state = .seek ∨ x.state = .offer →
          y.frameOut = some ⟨x.txSeq, offerWord ⟨x.abilities, x.roundPref, x.ownSeed⟩ x.ownAck, []⟩ ∧
            y.txSeq = x.txSeq + 1 ∧ y.state = x.state) ∧
        (x.role = some .lead → x.state = .pages →
          y.frameOut = some ⟨x.txSeq, s.laneWord l, []⟩ ∧ y.txSeq = x.txSeq + 1 ∧
            y.state = .pages) ∧
        (x.role = some .lead → x.state = .doze →
          (x.dozeBoundaries < 15 →
            y = { x with dozeBoundaries := x.dozeBoundaries + 1
                         pathSwitches := y.pathSwitches }) ∧
          (15 ≤ x.dozeBoundaries →
            y.frameOut = some ⟨x.txSeq, s.laneWord l, []⟩ ∧ y.txSeq = x.txSeq + 1 ∧
              y.dozeBoundaries = 0)) ∧
        (∀ p, x.role = some .lead → x.boundPort = some p →
          x.state = .live ∨ x.state = .dozeHold ∨ x.state = .waking →
          let new : Block :=
            List.replicate (48 - s.mix.framePasses.length) 0 ++
              s.mix.framePasses.reverse.map fun pass => pass.get p
          y.txSeq = x.txSeq + 1 ∧ y.state = x.state ∧
            (x.profile = some .tight → y.frameOut = some ⟨x.txSeq, s.laneWord l, [new]⟩) ∧
            (x.profile = some .robust → y.frameOut =
              some ⟨x.txSeq, s.laneWord l, [new, x.sentBlock2.getD (List.replicate 48 0)]⟩))) ∧
      (∀ k, (s.buffer k).owner = none ∨ (s.buffer k).running = false →
        t.buffer k = { s.buffer k with presented := List.replicate 48 0 }) ∧
      (∀ k p q, (s.buffer k).owner = some p → (s.buffer k).running = true →
        (s.buffer k).position = some q →
        let b := s.buffer k
        let leaves (after : PathBuf) : Prop :=
          t.buffer k = { after with slots := b.slots.set (slotOf q) none, position := some (q + 1) }
        let copyOf (l : LaneNo) (block : Block) : PathBuf :=
          { b with
            presented := block, lastGood := block, lastLane := some l, concealRun := 0
            dropoutReported := false }
        let run := min 255 (b.concealRun + 1)
        (∀ l block, lead p = some l →
          (b.copies q).find? (fun c => decide (c.1 = l)) = some (l, block) →
          leaves (copyOf l block)) ∧
        (∀ l block rest, b.copies q = (l, block) :: rest → (∀ c ∈ b.copies q, lead p ≠ some c.1) →
          leaves (copyOf l block)) ∧
        (b.copies q = [] → early b q → leaves { b with presented := List.replicate 48 0 }) ∧
        (b.copies q = [] → ¬ early b q →
          leaves
            { b with
              concealRun := run
              presented :=
                if run = 1 then b.lastGood.map fun v => (v * 512 + 512) / 1024
                else if run = 2 then b.lastGood.map fun v => (v * 256 + 512) / 1024
                else List.replicate 48 0
              dropoutReported := b.dropoutReported ||
                (decide (run = 8) && decide (∃ l ∈ (s.port p).boundLanes, (s.lane l).state = .live)) })) ∧
      (∀ l, ((∀ k, ¬ switches k l) → (t.lane l).pathSwitches = (s.lane l).pathSwitches) ∧
        ∀ k, switches k l → (∀ k', k' ≠ k → ¬ switches k' l) →
          (t.lane l).pathSwitches = min 255 ((s.lane l).pathSwitches + 1)) ∧
      ((∀ k p, ¬ drops k p) → s.QueuesNoReport t) ∧
      (∀ k p, drops k p → (∀ k' p', k' ≠ k → ¬ drops k' p') →
        s.QueuesReport t (.portDropout p s.timing.stationTime)) ∧
      State.IsBut
        { s with timing := t.timing, mix := t.mix, lanes := t.lanes, buffers := t.buffers } t)

/-! ## The Alignment Probe (05) -/

/-- PROBE is refused in the order of R76, and otherwise replaces the settings it carries and queues the port;
PROBE-CANCEL removes a queued port or aborts its running probe, each with its report; PROBE-GET reads the
settings, the engine and the queue (R76, R77, R92; model, log entry 30). -/
def Obligations.ProbeRequestsQueueAndCancel : Prop :=
  ∀ (tag port : Byte) (settings : Option (BitVec 24 × BitVec 24)) (s : State),
    s.takesCommand = true →
    let e := s.probe
    let set : Probe :=
      { e with
        level := (settings.map fun x => min 8388607 x.1.toNat).getD e.level
        threshold := (settings.map fun x => min 8388607 x.2.toNat).getD e.threshold }
    let code : ResultCode :=
      if settings.any fun x => decide (8388607 < x.1.toNat) || decide (8388607 < x.2.toNat)
      then .clamped else .ok
    (64 ≤ port.toNat → port ≠ 0xFF#8 →
      Completes (.probe tag port settings) s s tag Kind.probe .badArg ∧
        Completes (.probeCancel tag port) s s tag Kind.probeCancel .badArg) ∧
    (port = 0xFF#8 →
      Completes (.probe tag port settings) s { s with probe := set } tag Kind.probe code ∧
        Completes (.probeCancel tag port) s s tag Kind.probeCancel .badArg) ∧
    (∀ p : PortNo, port.toNat = p.val →
      let measurable : Prop := ∃ c, (s.port p).cancel = some c ∧ c.returnSource ≠ none
      let wanted : Prop := p ∈ e.queue ∨ ∃ r, e.run = some r ∧ r.port = p
      (¬ measurable →
        Completes (.probe tag port settings) s s tag Kind.probe .wrongClass) ∧
      (measurable → wanted →
        Completes (.probe tag port settings) s s tag Kind.probe .duplicate) ∧
      (measurable → ¬ wanted → 16 ≤ e.queue.length →
        Completes (.probe tag port settings) s s tag Kind.probe .noRoom) ∧
      (measurable → ¬ wanted → e.queue.length < 16 →
        Completes (.probe tag port settings) s
          { s with probe := { set with queue := e.queue ++ [p] } } tag Kind.probe code) ∧
      (¬ wanted → Completes (.probeCancel tag port) s s tag Kind.probeCancel .ok) ∧
      (p ∈ e.queue → (∀ r, e.run = some r → r.port ≠ p) →
        ∃ t, exec (.probeCancel tag port) s = .next t ∧
          s.FormsReplies t [⟨tag, Kind.probeCancel, .ok, .empty⟩] ∧
          s.QueuesReport t (.probeResult p .aborted none none 0 s.timing.stationTime) ∧
          State.IsBut { s with probe := { e with queue := e.queue.filter (· ≠ p) } } t) ∧
      (∀ r, e.run = some r → r.port = p → p ∉ e.queue →
        ∃ t, exec (.probeCancel tag port) s = .next t ∧
          s.FormsReplies t [⟨tag, Kind.probeCancel, .ok, .empty⟩] ∧
          s.QueuesReport t
            (.probeResult p .aborted none (some (r.stage, r.candidate)) r.rounds
              s.timing.stationTime) ∧
          (∀ c, (s.port p).cancel = some c → (t.slot c.slot).history = []) ∧
          State.IsBut
            { s with
              probe := { e with run := none, engine := .settling, settle := 4112 }
              cancel := t.cancel } t)) ∧
    Completes (.probeGet tag) s s tag Kind.probeGet .ok
      (.probe
        { level := e.level, threshold := e.threshold, engine := e.engine
          run := if e.engine = .running then e.run.map ProbeRun.reading else none
          settle := if e.engine = .settling then some e.settle else none
          queue := e.queue })

/-- PROBE_START takes the head of the queue in LOCKED or FREE with the engine IDLE: an isolated port or return
source is turned away with its report, any other runs from stage COARSE, candidate 255; elsewhere the queue
waits (R79, R80, R81; model, log entries 3, and 30 for the time of the report of a port turned away). -/
def Obligations.ProbeStartsInLockedOrFree : Prop :=
  ∀ s : State, s.resetHeld = false →
    let e := s.probe
    (e.engine ≠ .idle ∨ e.queue = [] ∨ s.timing.lock = .acquire ∨ s.timing.lock = .holdover →
      exec .probeStart s = .next s) ∧
    ∀ p rest c source, e.engine = .idle → e.queue = p :: rest →
      s.timing.lock = .locked ∨ s.timing.lock = .free →
      (s.port p).cancel = some c → c.returnSource = some source →
      ((s.port p).isolated = true ∨ (s.port source).isolated = true →
        ∃ t, exec .probeStart s = .next t ∧
          s.Offers t (.probeResult p .aborted none none 0 s.timing.stationTime) ∧
          State.IsBut { s with probe := { e with queue := rest } } t) ∧
      ((s.port p).isolated = false → (s.port source).isolated = false →
        exec .probeStart s =
          .next { s with probe :=
            { e with
              queue := rest, engine := .running
              run := some
                { port := p, returnSource := source, level := e.level, threshold := e.threshold
                  stage := .coarse, coarse := none, medium := none, index := 1, candidate := 255
                  phase := .marker, passes := 0, seen := 0, rounds := 1 } } })

/-- A window with 12 or more of its 16 passes seen records the stage's result and begins the gap, or in FINE
locks the delay; the sixteenth candidate not seen ends the probe with NONE or UNSTABLE; a gap of 4112 passes
leads to the next candidate, and a settle period that has run out leaves the engine IDLE. A probe's end
writes the delay on LOCKED alone, zero-fills the port's slot and reports it (R71, R73, R83 to R89). -/
def Obligations.ProbeRoundsLockOrEnd : Prop :=
  ∀ s : State, s.resetHeld = false →
    let e := s.probe
    (∀ r, e.run = some r → r.phase = .marker → r.candidate + 16 ≤ r.passes →
      let gap (r : ProbeRun) : State :=
        { s with probe := { e with run := some { r with phase := .gap, passes := 0 } } }
      let ends (result : ProbeResult) (delay : Option Nat) : Prop :=
        ∃ t, exec .windowJudgement s = .next t ∧
          s.Offers t
            (.probeResult r.port result delay (some (r.stage, r.candidate)) r.rounds
              s.timing.stationTime) ∧
          t.ports = (match delay with
            | some _ => s.ports.set r.port
                { s.port r.port with cancel :=
                    (s.port r.port).cancel.map fun c => { c with lockedDelay := delay } }
            | none => s.ports) ∧
          (∀ c, (s.port r.port).cancel = some c → (t.slot c.slot).history = [] ∧
            ∀ k, k ≠ c.slot → t.slot k = s.slot k) ∧
          State.IsBut
            { s with
              probe := { e with run := none, engine := .settling, settle := 4112 }
              cancel := t.cancel, ports := t.ports } t
      (12 ≤ r.seen → r.stage = .coarse →
        exec .windowJudgement s = .next (gap { r with coarse := some r.candidate })) ∧
      (12 ≤ r.seen → r.stage = .medium →
        exec .windowJudgement s = .next (gap { r with medium := some r.candidate })) ∧
      (12 ≤ r.seen → r.stage = .fine → ends .locked (some r.candidate)) ∧
      (r.seen < 12 → r.index < 16 → exec .windowJudgement s = .next (gap r)) ∧
      (r.seen < 12 → 16 ≤ r.index → r.stage = .coarse → ends .noneSeen none) ∧
      (r.seen < 12 → 16 ≤ r.index → r.stage ≠ .coarse → ends .unstable none)) ∧
    (∀ r, e.run = some r → r.phase = .gap → 4112 ≤ r.passes →
      let next (stage : ProbeStage) (index candidate : Nat) : State :=
        { s with probe :=
            { e with
              run := some
                { r with
                  stage := stage, index := index, candidate := candidate, phase := .marker
                  passes := 0, seen := 0, rounds := r.rounds + 1 } } }
      (r.stage = .coarse → r.coarse = none →
        exec .gapExpiry s = .next (next .coarse (r.index + 1) (256 * (r.index + 1) - 1))) ∧
      (∀ c, r.stage = .coarse → r.coarse = some c →
        exec .gapExpiry s = .next (next .medium 1 (c + 16 - 256))) ∧
      (∀ c, r.stage = .medium → r.coarse = some c → r.medium = none →
        exec .gapExpiry s = .next (next .medium (r.index + 1) (c + 16 * (r.index + 1) - 256))) ∧
      (∀ m, r.stage = .medium → r.medium = some m →
        exec .gapExpiry s = .next (next .fine 1 (m + 1 - 16))) ∧
      (∀ m, r.stage = .fine → r.medium = some m →
        exec .gapExpiry s = .next (next .fine (r.index + 1) (m + (r.index + 1) - 16)))) ∧
    (e.engine = .settling → e.settle = 0 →
      exec .settleExpiry s = .next { s with probe := { e with engine := .idle } }) ∧
    (e.engine ≠ .settling ∨ e.settle ≠ 0 → exec .settleExpiry s = .next s)

/-! ## The Talk Arbiter (07) -/

/-- GROUP-SET, TALK-FORCE and TALK-DROP are refused as far as the command alone decides (BAD-ARG, and BUSY for
GROUP-SET during a commit), and otherwise wait for the arbiter in service; KEY-SET replaces the whole entry at
once, the level clamped and the key's state left as it was (R109, R111, R127, R128; model, log entry 41 for a
target with function NONE). -/
def Obligations.ArbiterCommandsWaitAndKeySetActs : Prop :=
  ∀ (tag : Byte) (s : State), s.takesCommand = true →
    let waits (kind : Byte) (clamped : Bool) (w : HostWork) : State :=
      { s with
        control := { s.control with service := some ⟨tag, kind, clamped⟩ }
        arbiter := { s.arbiter with hostWaiting := some w } }
    (∀ (group : Byte) (members : List Byte),
      (64 ≤ group.toNat ∨ (∃ b ∈ members, 64 ≤ b.toNat) ∨ 16 < members.length ∨ ¬ members.Nodup →
        Completes (.groupSet tag group members) s s tag Kind.groupSet .badArg) ∧
      ∀ (g : GroupNo) (ps : List PortNo), group.toNat = g.val →
        members.map BitVec.toNat = ps.map Fin.val → ps.length ≤ 16 → ps.Nodup →
        (s.writer.state = .committing →
          Completes (.groupSet tag group members) s s tag Kind.groupSet .busy) ∧
        (s.writer.state ≠ .committing →
          exec (.groupSet tag group members) s =
            .next (waits Kind.groupSet false (.groupSet g ps)))) ∧
    (∀ (number function src kind target : Byte) (level : Half) (cls : Byte),
      let cmd : Instr := .talkForce tag number function src kind target level cls
      (16 ≤ number.toNat ∨ function = 0 ∨ 4 ≤ function.toNat ∨ 64 ≤ src.toNat ∨ 2 ≤ kind.toNat ∨
        64 ≤ target.toNat ∨ 4 ≤ cls.toNat →
        Completes cmd s s tag Kind.talkForce .badArg) ∧
      ∀ (n : HostTalkNo) (f : KeyFunction) (p : PortNo) (t : Target) (c : XpClass),
        number.toNat = n.val → keyFunction? function = some f → f ≠ .noFunction →
        src.toNat = p.val → target? kind target = some t → cls.toNat = c.val →
        exec cmd s =
          .next (waits Kind.talkForce (decide (4095 < level.toNat))
            (.talkForce n f p t (min 4095 level.toNat) c))) ∧
    (∀ selector number : Byte,
      (2 ≤ selector.toNat ∨ (selector = 0 ∧ 16 ≤ number.toNat) ∨
        (selector = 1 ∧ 128 ≤ number.toNat) →
        Completes (.talkDrop tag selector number) s s tag Kind.talkDrop .badArg) ∧
      (∀ n : HostTalkNo, selector = 0 → number.toNat = n.val →
        exec (.talkDrop tag selector number) s =
          .next (waits Kind.talkDrop false (.dropHostTalk n))) ∧
      ∀ id : TalkId, selector = 1 → number.toNat = id.val →
        exec (.talkDrop tag selector number) s =
          .next (waits Kind.talkDrop false (.dropTalk id))) ∧
    ∀ (line addr key function kind target : Byte) (level : Half) (cls mode : Byte),
      let cmd : Instr := .keySet tag line addr key function kind target level cls mode
      (2 ≤ line.toNat ∨ 16 ≤ addr.toNat ∨ 32 ≤ key.toNat ∨ 4 ≤ function.toNat ∨ 2 ≤ kind.toNat ∨
        64 ≤ target.toNat ∨ 4 ≤ cls.toNat ∨ 3 ≤ mode.toNat →
        Completes cmd s s tag Kind.keySet .badArg) ∧
      ∀ (k : KeyId) (f : KeyFunction) (t : Target) (c : XpClass) (m : KeyMode),
        line.toNat = k.line.val → addr.toNat = k.addr.val → key.toNat = k.key.val →
        keyFunction? function = some f → target? kind target = some t → cls.toNat = c.val →
        keyMode? mode = some m →
        Completes cmd s
          (s.modKey k fun x =>
            { x with
              entry :=
                { function := f, target := if f = .noFunction then none else some t
                  level := min 4095 level.toNat, cls := c, mode := m } })
          tag Kind.keySet (if level.toNat ≤ 4095 then .ok else .clamped)

/-- The reading commands answer OK with what they read and change nothing: XP-LIST, QUEUE-GET, KEY-GET,
GROUP-GET, TALK-LIST, HEALTH-GET and UNIT-GET; an object out of range is refused with BAD-ARG, and a start
position past the end reads nothing (R42, R107, R110, R111, R129, R176). The lamp KEY-GET reads, which the tally
shows as well, is the first of ON, PART, CALL and OFF that R126 gives. -/
def Obligations.ReadingsChangeNothing : Prop :=
  (∀ (s : State) (k : KeyId),
    let called : Prop :=
      (s.key k).entry.function = .talk ∧ ∃ q, (s.key k).entry.target = some (.port q) ∧
        ((∃ own, s.panelPort? k.line k.addr = some own ∧
            ∃ x ∈ s.arbiter.talks, x.function = .call ∧ x.phase = .active ∧ x.talkingPort = q ∧
              x.outcomeOn own = some .ok) ∨
          ((s.port q).cls = .remote ∧
            ∃ l ∈ (s.port q).boundLanes, (s.lane l).remoteCall = true))
    let active (os : List PlaceOutcome) : Prop :=
      ∃ x, s.keyTalk? k = some x ∧ x.phase = .active ∧ x.outcomes = some os
    (∀ os, active os → (∀ o ∈ os, o = .ok) → s.lamp k = .on) ∧
    (∀ os, active os → (∃ o ∈ os, o = .ok) → (∃ o ∈ os, o ≠ .ok) → s.lamp k = .part) ∧
    ((∀ os, active os → os ≠ [] ∧ ∀ o ∈ os, o ≠ .ok) →
      (called → s.lamp k = .call) ∧ (¬ called → s.lamp k = .off)) ∧
    (s.panelLamps k.line k.addr).get k.key = s.lamp k) ∧
  ∀ (tag start : Byte) (s : State), s.takesCommand = true →
    (∀ dst : Byte,
      (64 ≤ dst.toNat → Completes (.xpList tag dst start) s s tag Kind.xpList .badArg) ∧
      ∀ d : PortNo, dst.toNat = d.val →
        Completes (.xpList tag dst start) s s tag Kind.xpList .ok
          (.entries (s.into d).length (((s.into d).drop start.toNat).take 4))) ∧
    (∀ line : Byte,
      (2 ≤ line.toNat → Completes (.queueGet tag line) s s tag Kind.queueGet .badArg) ∧
      ∀ l : LineNo, line.toNat = l.val →
        Completes (.queueGet tag line) s s tag Kind.queueGet .ok
          (.queue (s.keyQueue l).count (s.keyQueue l).bytesUsed (s.keyQueue l).overrun
            (s.keyQueue l).headInService)) ∧
    (∀ line addr key : Byte,
      (2 ≤ line.toNat ∨ 16 ≤ addr.toNat ∨ 32 ≤ key.toNat →
        Completes (.keyGet tag line addr key) s s tag Kind.keyGet .badArg) ∧
      ∀ k : KeyId, line.toNat = k.line.val → addr.toNat = k.addr.val → key.toNat = k.key.val →
        Completes (.keyGet tag line addr key) s s tag Kind.keyGet .ok
          (.key (s.key k).entry (s.key k).state ((s.keyTalk? k).map fun t => (t.id, t.phase))
            (s.lamp k))) ∧
    (∀ group : Byte,
      (64 ≤ group.toNat → Completes (.groupGet tag group) s s tag Kind.groupGet .badArg) ∧
      ∀ g : GroupNo, group.toNat = g.val →
        Completes (.groupGet tag group) s s tag Kind.groupGet .ok (.members (s.group g))) ∧
    Completes (.talkList tag start) s s tag Kind.talkList .ok
      (.talks s.arbiter.talks.length
        (((s.arbiter.talks.drop start.toNat).take 4).map fun t =>
          { id := t.id, maker := t.maker, phase := t.phase, function := t.function
            talkingPort := t.talkingPort, target := t.target, level := t.level, cls := t.cls
            startTime := t.startTime, outcomes := t.outcomes })) ∧
    (∀ lane : Byte,
      (24 ≤ lane.toNat → Completes (.healthGet tag lane) s s tag Kind.healthGet .badArg) ∧
      ∀ l : LaneNo, lane.toNat = l.val →
        Completes (.healthGet tag lane) s s tag Kind.healthGet .ok
          (.health
            { settings := s.health.settings
              elapsed := s.timing.stationTime - s.health.sweepStart, lane := s.healthRec l })) ∧
    Completes (.unitGet tag start) s s tag Kind.unitGet .ok
      (.units s.units.length ((s.units.drop start.toNat).take 4))

/-- The arbiter takes a waiting TALK-FORCE with no work in service, no job in flight and no end pending:
WRONG-CLASS, DUPLICATE and NO-ROOM in that order; otherwise a talk with the lowest free identifier is made, the
bound lanes of its REMOTE ports get a wake request, and its begin job is issued, or for CALL it is ACTIVE at once
and answered with its outcomes: OK on a REMOTE port and on a panel with a TALK key for the caller, SELF on the
caller, else REFUSED; the lanes of the REMOTE targets are then told the local call (R113, R118 to R121, R127). That
bindings are sound stands as a premise of the calls. -/
def Obligations.TalkForceBeginsAHostTalk : Prop :=
  ∀ (s : State), s.resetHeld = false →
    let a := s.arbiter
    (a.work ≠ none ∨ a.jobInFlight ≠ none ∨ a.pendingEnds ≠ [] ∨ a.hostWaiting = none →
      exec .hostCommandTake s = .next s) ∧
    ∀ (n : HostTalkNo) (f : KeyFunction) (source : PortNo) (target : Target) (level : Nat)
      (cls : XpClass) (v : Service),
      a.work = none → a.jobInFlight = none → a.pendingEnds = [] →
      a.hostWaiting = some (.talkForce n f source target level cls) →
      s.control.service = some v →
      let targets := s.targetPorts target
      let taken : State := { s with arbiter := { a with hostWaiting := none } }
      let answered : State := { taken with control := { s.control with service := none } }
      ((s.port source).cls = .unused ∨ targets = [] →
        Completes .hostCommandTake s answered v.tag v.kind .wrongClass) ∧
      ((s.port source).cls ≠ .unused → targets ≠ [] →
        ((∃ t ∈ a.talks, t.maker = .host n) →
          Completes .hostCommandTake s answered v.tag v.kind .duplicate) ∧
        ((∀ t ∈ a.talks, t.maker ≠ .host n) →
          (128 ≤ a.talks.length →
            Completes .hostCommandTake s answered v.tag v.kind .noRoom) ∧
          ∀ id : TalkId, a.talks.length < 128 → (∀ t ∈ a.talks, t.id ≠ id) →
            (∀ id' : TalkId, (∀ t ∈ a.talks, t.id ≠ id') → id ≤ id') →
            let pairs := targets.map fun p =>
              if f = .listen then (p, source) else (source, p)
            let talk : Talk :=
              { id := id, maker := .host n, function := f, talkingPort := source, target := target
                targets := targets, level := level, cls := cls
                startTime := s.timing.stationTime, pairs := if f = .call then [] else pairs }
            (f ≠ .call → ∃ t, exec .hostCommandTake s = .next t ∧ s.Silent t ∧
              s.Wakes t (source :: targets) ∧
              (∀ d, (t.into d).map Entry.contents = (s.into d).map Entry.contents) ∧
              t.arbiter.talks.map Talk.id = a.talks.map Talk.id ++ [id] ∧
              ((∀ p ∈ source :: targets, (s.port p).cls ≠ .remote) →
                t.arbiter.talks = a.talks ++ [talk] ∧ t.lanes = s.lanes ∧ t.xp = s.xp) ∧
              State.IsBut
                { s with
                  arbiter :=
                    { a with
                      hostWaiting := none, talks := t.arbiter.talks
                      work := some (.host (.talkForce n f source target level cls))
                      jobInFlight := some (.beginTalk id) }
                  writer :=
                    { s.writer with
                      talkPos := some
                        { purpose := .beginTalk id
                          ops := pairs.map fun x => .place x.1 x.2 (.talk id) level cls } }
                  xp := t.xp, ports := t.ports, ducks := t.ducks, lanes := t.lanes } t) ∧
            (f = .call → (∀ p ∈ source :: targets, (s.port p).cls ≠ .remote) →
              (∀ p ∈ targets, (s.port p).binding = none) →
              let outcomes := targets.map fun p =>
                if p = source then PlaceOutcome.self
                else if (s.port p).cls = .panel ∧
                    (∃ l k, (s.port p).panel = some (l, k) ∧
                      s.panelTalksTo l k source = true)
                then .ok else .refused
              ∃ t, exec .hostCommandTake s = .next t ∧
                s.FormsReplies t
                  [⟨v.tag, v.kind, if v.clamped then .clamped else .ok, .outcomes outcomes⟩] ∧
                s.QueuesReport t (.talkBegin id (.host n) .call target outcomes) ∧
                State.IsBut
                  { answered with
                    arbiter :=
                      { a with
                        hostWaiting := none
                        talks := a.talks ++
                          [{ talk with phase := .active, outcomes := some outcomes }] } } t) ∧
            (f = .call → s.BindingsSound →
              let outcomes := targets.map fun p =>
                if p = source then PlaceOutcome.self
                else if (s.port p).cls = .remote ∨ ((s.port p).cls = .panel ∧
                    ∃ l k, (s.port p).panel = some (l, k) ∧
                      s.panelTalksTo l k source = true)
                then .ok else .refused
              ∃ t, exec .hostCommandTake s = .next t ∧
                s.FormsReplies t
                  [⟨v.tag, v.kind, if v.clamped then .clamped else .ok, .outcomes outcomes⟩] ∧
                s.QueuesReport t (.talkBegin id (.host n) .call target outcomes) ∧
                s.BeginsCall t talk outcomes ∧
                State.IsBut
                  { answered with
                    arbiter := { a with hostWaiting := none, talks := t.arbiter.talks }
                    xp := t.xp, ports := t.ports, ducks := t.ducks, lanes := t.lanes } t)))

/-- With the arbiter free, TALK-DROP finds no talk or one ENDING and is answered OK, or marks an ACTIVE talk
ENDING with reason HOST, moves its key by R123 and issues the end job; a CALL that ends takes the local call from
the lanes of its targets, unless another call stands there. GROUP-SET replaces the member list and hands the edit
of the talks on the group to the Table Writer, whose completion rebuilds their targets, pairs and outcomes, wakes
the REMOTE members they gain, tells the lanes of the ports gained and dropped the local call, and forms the reply,
or ends the talks where the new list is empty; and END_JOB_ISSUE issues the end job of the first talk pending
(R112, R113, R120 to R123, R128; model, log entries 19 for the empty list, 20 and 43 for the edit). -/
def Obligations.HostEndsTalksAndEditsGroups : Prop :=
  ∀ (s : State), s.resetHeld = false →
    let a := s.arbiter
    let ended (x : Talk) : Talk := { x with phase := .ending, endReason := some .host }
    let endJob (x : Talk) : Job :=
      { purpose := .endTalk x.id, ops := x.pairs.map fun y => .withdraw y.1 y.2 (.talk x.id) }
    (∀ (w : HostWork) (v : Service) (found : Option Talk),
      a.work = none → a.jobInFlight = none → a.pendingEnds = [] → a.hostWaiting = some w →
      s.control.service = some v →
      ((∃ n, w = .dropHostTalk n ∧ found = a.talks.find? fun x => x.maker = .host n) ∨
        ∃ id, w = .dropTalk id ∧ found = s.talk? id) →
      ((∀ x, found = some x → x.phase = .ending) →
        Completes .hostCommandTake s
          { s with
            arbiter := { a with hostWaiting := none }
            control := { s.control with service := none } } v.tag v.kind .ok) ∧
      ∀ x, found = some x → s.talk? x.id = some x → x.phase = .active →
        let keys := match x.maker with
          | .key k =>
            (s.modKey k fun c =>
              { c with
                timer := none
                state := match c.state with
                  | .held | .clearing => .clearing
                  | .latched | .idle => .idle }).arbiter.keys
          | .host _ => a.keys
        let dropped : State :=
          { s with
            arbiter :=
              { a with
                hostWaiting := none, work := some (.host w), jobInFlight := some (.endTalk x.id)
                talks := a.talks.map fun y => if y.id = x.id then ended y else y
                keys := keys }
            writer := { s.writer with talkPos := some (endJob x) } }
        (x.function ≠ .call → exec .hostCommandTake s = .next dropped) ∧
        (x.function = .call → ∃ t, exec .hostCommandTake s = .next t ∧ s.EndsCall x dropped t)) ∧
    (∀ (g : GroupNo) (new : List PortNo),
      a.work = none → a.jobInFlight = none → a.pendingEnds = [] →
      a.hostWaiting = some (.groupSet g new) →
      let old := s.group g
      let talks := a.talks.filter fun x => x.phase = .active ∧ x.target = .group g
      let edit (x : Talk) : List ClaimOp :=
        let pair (p : PortNo) : PortNo × PortNo :=
          if x.function = .listen then (p, x.talkingPort) else (x.talkingPort, p)
        if x.function = .call then []
        else
          ((old.filter fun p => p ∉ new).map fun p =>
            .withdraw (pair p).1 (pair p).2 (.talk x.id)) ++
          (new.filter fun p => p ∉ old).map fun p =>
            .place (pair p).1 (pair p).2 (.talk x.id) x.level x.cls
      let job : Job := { purpose := .groupEdit g old, ops := talks.flatMap edit }
      (new ≠ [] →
        exec .hostCommandTake s =
          .next
            { s with
              arbiter :=
                { a with
                  hostWaiting := none, groups := a.groups.set g new
                  work := some (.host (.groupSet g new)), jobInFlight := some (.groupEdit g old) }
              writer := { s.writer with hostPos := some job } }) ∧
      (new = [] → s.TalksSound → ∃ t, exec .hostCommandTake s = .next t ∧ s.Silent t ∧
        t.group g = [] ∧ t.arbiter.pendingEnds = talks.map Talk.id ∧
        t.arbiter.talks.map Talk.id = a.talks.map Talk.id ∧
        (∀ x ∈ talks, ∃ y ∈ t.arbiter.talks,
          y.id = x.id ∧ y.phase = .ending ∧ y.endReason = some .host) ∧
        t.writer =
          { s.writer with hostPos := some { purpose := .groupEdit g old, ops := [] } })) ∧
    (∀ (j : Job) (g : GroupNo) (old : List PortNo) (v : Service),
      s.writer.state = .servingHost → s.writer.hostPos = some j → j.ops = [] →
      j.purpose = .groupEdit g old → s.control.service = some v → s.group g ≠ [] →
      ∃ t, exec .writeJobComplete s = .next t ∧ s.Answers t v.tag v.kind .ok ∧
        t.arbiter.work = none ∧ t.arbiter.jobInFlight = none ∧ t.control.service = none ∧
        t.writer = { s.writer with state := .free, hostPos := none } ∧
        t.arbiter.talks.map Talk.id = a.talks.map Talk.id ∧
        (let moved (p : PortNo) : Prop :=
          (p ∈ old ∧ p ∉ s.group g) ∨ (p ∉ old ∧ p ∈ s.group g)
         let awake : Prop := ∀ p, moved p → ∀ l ∈ (s.port p).boundLanes,
          (s.lane l).state ≠ .doze ∧ (s.lane l).state ≠ .dozeHold
         ((∃ x ∈ a.talks, x.target = .group g) → ∀ p ∈ s.group g, p ∉ old →
            (s.port p).cls = .remote → ∀ l ∈ (s.port p).boundLanes,
            (t.lane l).state = State.wokenState (s.lane l).state) ∧
         (s.BindingsSound → awake → ∀ p, moved p → ∀ l ∈ (s.port p).boundLanes,
            ((t.lane l).localCall = true ↔ t.CallStands p)) ∧
         (awake → ∀ x ∈ a.talks, x.target = .group g → x.function = .call → x.heldNotices = [] →
            ∃ y ∈ t.arbiter.talks, y.id = x.id ∧ y.targets = s.group g ∧ y.pairs = [] ∧
              ∀ p ∈ s.group g,
                (p ∈ x.targets → x.outcomeOn p ≠ none → y.outcomeOn p = x.outcomeOn p) ∧
                (p ∉ x.targets → y.outcomeOn p =
                  some
                    (if p = x.talkingPort then .self
                     else if (s.port p).cls = .remote ∨ ((s.port p).cls = .panel ∧
                        ∃ l k, (s.port p).panel = some (l, k) ∧
                          s.panelTalksTo l k x.talkingPort = true)
                      then .ok else .refused)))) ∧
        ∀ x ∈ a.talks, x.target = .group g → x.function ≠ .call → x.heldNotices = [] →
          ∃ y ∈ t.arbiter.talks, y.id = x.id ∧ y.targets = s.group g ∧
            y.pairs = ((s.group g).map fun p =>
              if x.function = .listen then (p, x.talkingPort) else (x.talkingPort, p)) ∧
            ((∀ q, (s.port q).cls ≠ .remote) →
              ∀ p ∈ s.group g, p ∈ x.targets → x.outcomeOn p ≠ none →
                y.outcomeOn p = x.outcomeOn p)) ∧
    (a.jobInFlight ≠ none ∨ a.pendingEnds = [] → exec .endJobIssue s = .next s) ∧
    ∀ x rest, a.jobInFlight = none → a.pendingEnds = x.id :: rest → s.talk? x.id = some x →
      exec .endJobIssue s =
        .next
          { s with
            arbiter := { a with pendingEnds := rest, jobInFlight := some (.endTalk x.id) }
            writer := { s.writer with talkPos := some (endJob x) } }

/-- A key record is taken from the queue the arbiter's choice names, and judged by the key's mode and state:
what ends the key's talk, what only moves the key, what does nothing; a LEVEL record steps an ACTIVE LISTEN
talk. Judged without a job, the record leaves its queue at once. The long timer's expiry marks a hold still
down as long; a CALL that ends takes the local call from the lanes of its targets, unless another call stands
there (R105, R113 to R117, R121; model, log entry 16 for an absent press stamp and 18 for the first line
served). -/
def Obligations.KeyRecordsMoveKeysAndEndTalks : Prop :=
  ∀ s : State, s.resetHeld = false →
    let a := s.arbiter
    let free : Prop :=
      a.work = none ∧ a.jobInFlight = none ∧ a.pendingEnds = [] ∧ a.hostWaiting = none
    (¬ free ∨ (∀ l, (s.keyQueue l).records = []) → exec .keyRecordTake s = .next s) ∧
    (∀ (l : LineNo) (r : KeyRecord) (rest : List KeyRecord), free →
      (s.keyQueue l).records = r :: rest →
      (∀ m, m ≠ l → (s.keyQueue m).records ≠ [] →
        a.lastLine = some m ∨ (a.lastLine = none ∧ l = 0)) →
      let k : KeyId := ⟨l, r.addr, r.key⟩
      let c := s.key k
      let mode := c.entry.mode
      let q := s.keyQueue l
      let taken : State :=
        { s with
          arbiter := { a with lastLine := some l }
          keyQueues := s.keyQueues.set l
            { records := rest, bytesUsed := (rest.map KeyRecord.size).sum, count := rest.length
              overrun := q.overrun && !rest.isEmpty, headInService := false } }
      let moved (st : KeyState) : State :=
        taken.modKey k fun c =>
          { c with state := st, timer := if st = .held then c.timer else none }
      let ends (st : KeyState) : Prop :=
        ((∀ x, s.keyTalk? k = some x → x.phase = .ending ∧ s.talk? x.id = some x) →
          exec .keyRecordTake s = .next (moved st)) ∧
        ∀ x, s.keyTalk? k = some x → s.talk? x.id = some x → x.phase = .active →
          let ended : State :=
            { moved st with
              arbiter :=
                { (moved st).arbiter with
                  talks := a.talks.map fun y =>
                    if y.id = x.id then { y with phase := .ending, endReason := some .key } else y
                  pendingEnds := [x.id] } }
          (x.function ≠ .call → exec .keyRecordTake s = .next ended) ∧
          (x.function = .call → ∃ t, exec .keyRecordTake s = .next t ∧ s.EndsCall x ended t)
      (r.action = .press →
        (c.state = .latched → mode ≠ .momentary → ends .clearing) ∧
        (c.state = .held ∨ c.state = .clearing ∨ (c.state = .latched ∧ mode = .momentary) →
          exec .keyRecordTake s = .next (moved c.state))) ∧
      (r.action = .release →
        (c.state = .held → mode ≠ .auto → ends .idle) ∧
        (∀ stamp, c.state = .held → mode = .auto → c.pressStamp = some stamp →
          (c.longMark = true ∨ 14400 ≤ (r.arrival - stamp).toNat → ends .idle) ∧
          (c.longMark = false → (r.arrival - stamp).toNat < 14400 →
            exec .keyRecordTake s = .next (moved .latched))) ∧
        (c.state = .held → mode = .auto → c.pressStamp = none →
          ∃ t, exec .keyRecordTake s = .next t ∧ t.freeCount = s.freeCount + 1 ∧
            t.keyQueues = taken.keyQueues ∧
            ((t.key k).state = .idle ∨ (t.key k).state = .latched ∧ c.longMark = false)) ∧
        (c.state = .latched → mode = .momentary → ends .idle) ∧
        (c.state = .clearing → exec .keyRecordTake s = .next (moved .idle)) ∧
        (c.state = .idle ∨ (c.state = .latched ∧ mode ≠ .momentary) →
          exec .keyRecordTake s = .next (moved c.state))) ∧
      ∀ step, r.action = .level step →
        ((∀ x, s.keyTalk? k = some x → x.phase ≠ .active ∨ x.function ≠ .listen) →
          exec .keyRecordTake s = .next taken) ∧
        ∀ x, s.keyTalk? k = some x → x.phase = .active → x.function = .listen →
          let level := min 4095 (step.toNat * 16)
          let job : Job :=
            { purpose := .levelStep x.id, ops := [.levelChange x.id level x.pairs] }
          exec .keyRecordTake s =
            .next
              { s with
                keyQueues := s.keyQueues.set l { q with headInService := true }
                arbiter :=
                  { a with
                    lastLine := some l, work := some (.record l r)
                    jobInFlight := some (.levelStep x.id)
                    talks := a.talks.map fun y => if y.id = x.id then { y with level := level } else y }
                writer := { s.writer with talkPos := some job } }) ∧
    ∀ k : KeyId,
      (∀ since, (s.key k).timer = some since → 65536 ≤ (s.timing.stationTime - since).toNat →
        exec (.longTimerExpiry k) s =
          .next (s.modKey k fun c =>
            { c with timer := none, longMark := c.longMark || decide (c.state = .held) })) ∧
      ((∀ since, (s.key k).timer = some since → (s.timing.stationTime - since).toNat < 65536) →
        exec (.longTimerExpiry k) s = .next s)

/-- A PRESS in IDLE begins a talk: nothing for function NONE, TALK-REFUSED with NO-PORT, EMPTY-GROUP or
LIST-FULL in that order with the key left IDLE, and otherwise a talk with the lowest free identifier whose
begin job is issued while the record stays in service; a CALL is ACTIVE at once with its outcomes, and its
record leaves the queue; the bound lanes of the talk's REMOTE ports get a wake request, and those of a CALL's
REMOTE targets are told the local call (R114, R115, R116, R118 to R121; model, log entry 49 for the press stamp).
That bindings are sound stands as a premise of the calls. -/
def Obligations.KeyPressBeginsATalk : Prop :=
  ∀ (s : State) (l : LineNo) (r : KeyRecord) (rest : List KeyRecord), s.resetHeld = false →
    let a := s.arbiter
    let k : KeyId := ⟨l, r.addr, r.key⟩
    let c := s.key k
    let f := c.entry.function
    a.work = none → a.jobInFlight = none → a.pendingEnds = [] → a.hostWaiting = none →
    (s.keyQueue l).records = r :: rest → (∀ m, m ≠ l → (s.keyQueue m).records = []) →
    r.action = .press → c.state = .idle →
    let taken : State :=
      { s with
        arbiter := { a with lastLine := some l }
        keyQueues := s.keyQueues.set l
          { records := rest, bytesUsed := (rest.map KeyRecord.size).sum, count := rest.length
            overrun := (s.keyQueue l).overrun && !rest.isEmpty, headInService := false } }
    let refused (reason : TalkRefusal) : Prop :=
      ∃ t, exec .keyRecordTake s = .next t ∧ s.Offers t (.talkRefused k reason) ∧ taken.IsBut t
    (f = .noFunction → exec .keyRecordTake s = .next taken) ∧
    ∀ target, f ≠ .noFunction → c.entry.target = some target →
      let targets := s.targetPorts target
      (s.panelPort? l r.addr = none → refused .noPort) ∧
      ∀ own, s.panelPort? l r.addr = some own →
        (targets = [] → refused .emptyGroup) ∧
        (targets ≠ [] → 128 ≤ a.talks.length → refused .listFull) ∧
        ∀ id : TalkId, targets ≠ [] → a.talks.length < 128 → (∀ x ∈ a.talks, x.id ≠ id) →
          (∀ id' : TalkId, (∀ x ∈ a.talks, x.id ≠ id') → id ≤ id') →
          let pairs := targets.map fun p => if f = .listen then (p, own) else (own, p)
          let talk : Talk :=
            { id := id, maker := .key k, function := f, talkingPort := own, target := target
              targets := targets, level := c.entry.level, cls := c.entry.cls
              startTime := s.timing.stationTime, pairs := if f = .call then [] else pairs }
          let keys :=
            (s.modKey k fun c =>
              if c.entry.mode = .auto then
                { c with
                  state := .held, pressStamp := some r.arrival, longMark := false
                  timer := some s.timing.stationTime }
              else if c.entry.mode = .latching then { c with state := .latched, timer := none }
              else { c with state := .held }).arbiter.keys
          let job : Job :=
            { purpose := .beginTalk id
              ops := pairs.map fun x => .place x.1 x.2 (.talk id) c.entry.level c.entry.cls }
          (f ≠ .call → ∃ t, exec .keyRecordTake s = .next t ∧ s.Silent t ∧
            s.Wakes t (own :: targets) ∧
            (∀ d, (t.into d).map Entry.contents = (s.into d).map Entry.contents) ∧
            t.arbiter.talks.map Talk.id = a.talks.map Talk.id ++ [id] ∧
            ((∀ p ∈ own :: targets, (s.port p).cls ≠ .remote) →
              t.arbiter.talks = a.talks ++ [talk] ∧ t.lanes = s.lanes ∧ t.xp = s.xp) ∧
            State.IsBut
              { s with
                keyQueues := s.keyQueues.set l { s.keyQueue l with headInService := true }
                arbiter :=
                  { a with
                    keys := keys, talks := t.arbiter.talks, lastLine := some l
                    work := some (.record l r), jobInFlight := some (.beginTalk id) }
                writer := { s.writer with talkPos := some job }
                xp := t.xp, ports := t.ports, ducks := t.ducks, lanes := t.lanes } t) ∧
          (f = .call → (∀ p ∈ own :: targets, (s.port p).cls ≠ .remote) →
            (∀ p ∈ targets, (s.port p).binding = none) →
            let outcomes := targets.map fun p =>
              if p = own then PlaceOutcome.self
              else if (s.port p).cls = .panel ∧
                  (∃ l k, (s.port p).panel = some (l, k) ∧ s.panelTalksTo l k own = true)
              then .ok else .refused
            ∃ t, exec .keyRecordTake s = .next t ∧
              s.Offers t (.talkBegin id (.key k) .call target outcomes) ∧
              State.IsBut
                { taken with
                  arbiter :=
                    { a with
                      keys := keys, lastLine := some l
                      talks := a.talks ++
                        [{ talk with phase := .active, outcomes := some outcomes }] } } t) ∧
          (f = .call → s.BindingsSound →
            let outcomes := targets.map fun p =>
              if p = own then PlaceOutcome.self
              else if (s.port p).cls = .remote ∨ ((s.port p).cls = .panel ∧
                  ∃ l k, (s.port p).panel = some (l, k) ∧ s.panelTalksTo l k own = true)
              then .ok else .refused
            ∃ t, exec .keyRecordTake s = .next t ∧
              s.Offers t (.talkBegin id (.key k) .call target outcomes) ∧
              s.BeginsCall t talk outcomes ∧
              State.IsBut
                { taken with
                  arbiter := { a with keys := keys, lastLine := some l, talks := t.arbiter.talks }
                  xp := t.xp, ports := t.ports, ducks := t.ducks, lanes := t.lanes } t)

/-! ## Panel lines (06) -/

/-- POLL takes the lowest listed address above the last polled, otherwise the lowest listed; a transaction
ends in a good answer, an erroneous one (one answer error and a miss), or a miss; the fourth miss in a row of
a present panel makes it ABSENT with its report, purges its records but for a head in service, leaves those of
other panels, and brings its keys to rest; a good answer settles presence, offers its key frames through the filter
one by one, in order, reports an overrun that appears, offers its held keys to the arbiter, which ends the talk of
a key HELD but not in the set with reason ECHO, and leaves the last tally at the panel's lamps (R94 to R101, R103
to R106, R124, R125). -/
def Obligations.PollsAndAnswersRunAPanelLine : Prop :=
  ∀ (l : LineNo) (s : State), s.resetHeld = false →
    let pl := s.line l
    let above (b : PanelAddr) : Prop :=
      pl.pollList.getLsbD b.val = true ∧ ∀ last, pl.lastPolled = some last → last < b
    (pl.inProgress ≠ none ∨ pl.pollList = 0 → exec (.poll l) s = .next s) ∧
    (∀ a : PanelAddr, pl.inProgress = none →
      (above a ∧ ∀ b, above b → a ≤ b) ∨
        ((∀ b, ¬ above b) ∧ pl.pollList.getLsbD a.val = true ∧
          ∀ b : PanelAddr, pl.pollList.getLsbD b.val = true → a ≤ b) →
      exec (.poll l) s =
        .next ((s.modPanel l a fun x =>
          { x with pollsSinceTally := min 32 (x.pollsSinceTally + 1) }).modLine l fun pl =>
            { pl with
              lastPolled := some a
              inProgress := some { addr := a, phase := .window, removed := false }
              frameOut := some (.poll a) })) ∧
    (pl.inProgress = none →
      exec (.answerWindowExpiry l) s = .next s ∧ exec (.answerBrokenOff l) s = .next s ∧
        ∀ bytes, exec (.answer l bytes) s = .next s) ∧
    ∀ poll, pl.inProgress = some poll →
      let a := poll.addr
      let x := s.panel l a
      let idle : State := s.modLine l fun pl => { pl with inProgress := none }
      let counted : State := idle.modLine l fun pl =>
        { pl with answerErrors := min 255 (pl.answerErrors + 1) }
      (poll.removed = true →
        exec (.answerWindowExpiry l) s = .next idle ∧ exec (.answerBrokenOff l) s = .next idle ∧
          ∀ bytes, exec (.answer l bytes) s = .next idle) ∧
      (∀ bytes, (∀ ans, parseAnswer bytes = some ans → ans.addr.toNat ≠ a.val) →
        exec (.answer l bytes) s = exec (.answerBrokenOff l) s) ∧
      (poll.removed = false → x.present = false →
        exec (.answerWindowExpiry l) s = .next idle ∧
          exec (.answerBrokenOff l) s = .next counted) ∧
      (poll.removed = false → x.present = true → x.missRun < 3 →
        exec (.answerWindowExpiry l) s =
          .next (idle.modPanel l a fun x => { x with missRun := x.missRun + 1 }) ∧
        exec (.answerBrokenOff l) s =
          .next (counted.modPanel l a fun x => { x with missRun := x.missRun + 1 })) ∧
      (poll.removed = false → x.present = true → 3 ≤ x.missRun →
        ∃ t, exec (.answerWindowExpiry l) s = .next t ∧
          s.Offers t (.panelPresence l a false) ∧
          t.panel l a =
            { x with present := false, missRun := 0, lastTally := none, lastHeld := none } ∧
          (let q := s.keyQueue l
           let others (r : KeyRecord) : Bool := decide (r.addr ≠ a)
           let left :=
            if q.headInService then q.records.take 1 ++ (q.records.drop 1).filter others
            else q.records.filter others
           t.keyQueue l =
            { q with
              records := left, bytesUsed := (left.map KeyRecord.size).sum, count := left.length
              overrun := q.overrun && !left.isEmpty } ∧
            ∀ m, m ≠ l → t.keyQueue m = s.keyQueue m) ∧
          (∀ k : KeyNo, t.key ⟨l, a, k⟩ =
            { s.key ⟨l, a, k⟩ with
              state := .idle, pressStamp := none, longMark := false, timer := none }) ∧
          (s.TalksSound → ∀ y ∈ s.arbiter.talks, ∀ k, y.maker = .key ⟨l, a, k⟩ →
            y.phase = .active → ∃ z ∈ t.arbiter.talks,
              z.id = y.id ∧ z.phase = .ending ∧ z.endReason = some .panelAbsent) ∧
          State.IsBut
            { s with lines := t.lines, keyQueues := t.keyQueues, arbiter := t.arbiter
                     lanes := t.lanes, xp := t.xp, ports := t.ports, ducks := t.ducks } t) ∧
      ∀ bytes ans, poll.removed = false → parseAnswer bytes = some ans → ans.addr.toNat = a.val →
        ∃ t, exec (.answer l bytes) s = .next t ∧ s.FormsReplies t [] ∧
          (t.line l).inProgress = none ∧ (t.line l).answerErrors = pl.answerErrors ∧
          (t.panel l a).present = true ∧ (t.panel l a).missRun = 0 ∧
          (t.panel l a).lastHeld = some ans.held ∧
          (t.panel l a).lastTally = some (t.panelLamps l a) ∧
          (x.lastTally ≠ some (t.panelLamps l a) ∨ 32 ≤ x.pollsSinceTally →
            (t.line l).frameOut = some (.tally a (t.panelLamps l a)) ∧
              (t.panel l a).pollsSinceTally = 0) ∧
          (x.lastTally = some (t.panelLamps l a) → x.pollsSinceTally < 32 →
            (t.line l).frameOut = pl.frameOut ∧
              (t.panel l a).pollsSinceTally = x.pollsSinceTally) ∧
          (ans.frames = [] → t.keyQueues = s.keyQueues ∧
            (x.present = true → s.QueuesNoReport t) ∧
            (x.present = false → s.QueuesReport t (.panelPresence l a true))) ∧
          (∀ f, ans.frames = [f] →
            let q := s.keyQueue l
            let r : KeyRecord :=
              { addr := a, key := f.key, action := f.action
                arrival := s.timing.stationTime.setWidth 16 }
            (pl.passes a f = false → t.keyQueues = s.keyQueues) ∧
            (pl.passes a f = true → r.size ≤ 256 - q.bytesUsed →
              (t.keyQueue l).records = q.records ++ [r]) ∧
            (pl.passes a f = true → 256 - q.bytesUsed < r.size →
              t.keyQueue l = { q with overrun := true } ∧
              (x.present = true → q.overrun = false →
                s.QueuesReport t (.keyOverrun l r.arrival)) ∧
              (x.present = true → q.overrun = true → s.QueuesNoReport t))) ∧
          (let q := s.keyQueue l
           let arrival := s.timing.stationTime.setWidth 16
           let offer (q : KeyQueue) (f : KeyFrame) : KeyQueue :=
            let r : KeyRecord := { addr := a, key := f.key, action := f.action, arrival := arrival }
            if pl.passes a f = false then q
            else if r.size ≤ 256 - q.bytesUsed then
              { q with
                records := q.records ++ [r], count := q.records.length + 1
                bytesUsed := (q.records.map KeyRecord.size).sum + r.size }
            else { q with overrun := true }
           let after := ans.frames.foldl offer q
           t.keyQueue l = after ∧ (∀ m, m ≠ l → t.keyQueue m = s.keyQueue m) ∧
            s.QueuesReports t
              ((if x.present then [] else [.panelPresence l a true]) ++
                (if q.overrun = false ∧ after.overrun = true then [.keyOverrun l arrival]
                 else []))) ∧
          (s.TalksSound → (∀ r ∈ (t.keyQueue l).records, r.addr ≠ a) →
            let ended := (List.finRange 32).filterMap fun k : KeyNo =>
              if (s.key ⟨l, a, k⟩).state = .held ∧ ans.held.getLsbD k.val = false then
                ((s.keyTalk? ⟨l, a, k⟩).filter fun y => decide (y.phase = .active)).map Talk.id
              else none
            t.arbiter.pendingEnds = s.arbiter.pendingEnds ++ ended ∧
            ∀ y ∈ s.arbiter.talks, ∃ z ∈ t.arbiter.talks, z.id = y.id ∧
              (y.id ∈ ended → z.phase = .ending ∧ z.endReason = some .echo) ∧
              (y.id ∉ ended → z.phase = y.phase ∧ z.endReason = y.endReason)) ∧
          ((∀ r ∈ (t.keyQueue l).records, r.addr ≠ a) → ∀ k : KeyNo,
            (t.key ⟨l, a, k⟩).state =
              if ans.held.getLsbD k.val then (s.key ⟨l, a, k⟩).state
              else match (s.key ⟨l, a, k⟩).state with
                | .held | .clearing | .idle => .idle
                | .latched => .latched) ∧
          State.IsBut
            { s with lines := t.lines, keyQueues := t.keyQueues, arbiter := t.arbiter
                     lanes := t.lanes, xp := t.xp, ports := t.ports, ducks := t.ducks } t

/-- A frame passes a SINGLE filter where every bit of its 20-bit word whose mask bit is 0 equals the code's,
and a DUAL filter where its 12-bit identifier does so for code A or code B. FILTER-SET replaces the mode and
its codes and masks, POLL-SET the poll list: addresses that join start afresh, addresses that leave have their
records purged, their talks ended with reason POLL-REMOVED and their keys brought to rest; PANEL-GET reads a line
and an address, and the line's answer errors are then 0 (R96, R101, R102, R106, R108, R124; model, log entries 13
for bit n of the poll list as address n, 47 for the order of the addresses removed, and 48 for a removed address
listed again). -/
def Obligations.PanelLineCommands : Prop :=
  (∀ (pl : PanelLine) (a : PanelAddr) (f : KeyFrame),
    (pl.filterMode = .single → (pl.passes a f = true ↔ ∀ i : Nat, i < 20 →
      pl.singleMask.getLsbD i = true ∨
        pl.singleCode.getLsbD i = (frameWord a f).getLsbD i)) ∧
    (pl.filterMode = .dual → (pl.passes a f = true ↔
      (∀ i : Nat, i < 12 → pl.maskA.getLsbD i = true ∨
        pl.codeA.getLsbD i = (frameIdentifier a f).getLsbD i) ∨
      ∀ i : Nat, i < 12 → pl.maskB.getLsbD i = true ∨
        pl.codeB.getLsbD i = (frameIdentifier a f).getLsbD i))) ∧
  ∀ (tag line : Byte) (s : State), s.takesCommand = true →
    (∀ marks : BitVec 16,
      (2 ≤ line.toNat → Completes (.pollSet tag line marks) s s tag Kind.pollSet .badArg) ∧
      ∀ l : LineNo, line.toNat = l.val →
        let pl := s.line l
        let was (a : PanelAddr) : Bool := pl.pollList.getLsbD a.val
        let is (a : PanelAddr) : Bool := marks.getLsbD a.val
        ∃ t, exec (.pollSet tag line marks) s = .next t ∧ s.Answers t tag Kind.pollSet .ok ∧
          t.line l =
            { pl with
              pollList := marks, panels := (t.line l).panels
              inProgress := pl.inProgress.map fun poll =>
                if was poll.addr && !is poll.addr then { poll with removed := true } else poll } ∧
          (∀ m, m ≠ l → t.line m = s.line m ∧ t.keyQueue m = s.keyQueue m) ∧
          (∀ a, was a = is a → t.panel l a = s.panel l a ∧ ∀ k, t.key ⟨l, a, k⟩ = s.key ⟨l, a, k⟩) ∧
          (∀ a, was a ≠ is a → t.panel l a =
            { present := false, missRun := 0, pollsSinceTally := 0, lastTally := none
              lastHeld := none }) ∧
          (∀ a, was a = true → is a = false →
            (∀ k, (t.key ⟨l, a, k⟩).state = .idle) ∧
              (s.TalksSound → ∀ y ∈ s.arbiter.talks, ∀ k, y.maker = .key ⟨l, a, k⟩ →
                y.phase = .active → ∃ z ∈ t.arbiter.talks,
                  z.id = y.id ∧ z.phase = .ending ∧ z.endReason = some .pollRemoved) ∧
              ((s.keyQueue l).headInService = false →
                ∀ r ∈ (t.keyQueue l).records, r.addr ≠ a)) ∧
          (let stays (r : KeyRecord) : Bool := !was r.addr || is r.addr
           let q := s.keyQueue l
           (t.keyQueue l).records =
            if q.headInService then q.records.take 1 ++ (q.records.drop 1).filter stays
            else q.records.filter stays) ∧
          State.IsBut
            { s with lines := t.lines, keyQueues := t.keyQueues, arbiter := t.arbiter
                     lanes := t.lanes, xp := t.xp, ports := t.ports, ducks := t.ducks } t) ∧
    (∀ filter : FilterArg, 2 ≤ line.toNat ∨ (∃ mode, filter = .unknown mode) →
      Completes (.filterSet tag line filter) s s tag Kind.filterSet .badArg) ∧
    (∀ (l : LineNo) (code mask : BitVec 20), line.toNat = l.val →
      Completes (.filterSet tag line (.single code mask)) s
        (s.modLine l fun pl =>
          { pl with filterMode := .single, singleCode := code, singleMask := mask })
        tag Kind.filterSet .ok) ∧
    (∀ (l : LineNo) (codeA maskA codeB maskB : BitVec 12), line.toNat = l.val →
      Completes (.filterSet tag line (.dual codeA maskA codeB maskB)) s
        (s.modLine l fun pl =>
          { pl with
            filterMode := .dual, codeA := codeA, maskA := maskA, codeB := codeB, maskB := maskB })
        tag Kind.filterSet .ok) ∧
    ∀ addr : Byte,
      (2 ≤ line.toNat ∨ 16 ≤ addr.toNat →
        Completes (.panelGet tag line addr) s s tag Kind.panelGet .badArg) ∧
      ∀ (l : LineNo) (a : PanelAddr), line.toNat = l.val → addr.toNat = a.val →
        Completes (.panelGet tag line addr) s
          (s.modLine l fun pl => { pl with answerErrors := 0 }) tag Kind.panelGet .ok
          (.panel
            { pollList := (s.line l).pollList
              filter := match (s.line l).filterMode with
                | .single => .single (s.line l).singleCode (s.line l).singleMask
                | .dual =>
                  .dual (s.line l).codeA (s.line l).maskA (s.line l).codeB (s.line l).maskB
              answerErrors := (s.line l).answerErrors
              listed := (s.line l).pollList.getLsbD a.val
              panel := s.panel l a })

/-! ## Lanes (08, 09) -/

/-- A lane frame is ignored in OFF and BARRED; one that fails counts a frame error with its syndrome and one
silent period; a duplicate or a frame from behind changes nothing; an accepted one sets the last sequence,
counts the missing frames it shows and restarts the silence timer. A word of a kind the state does not use is
ignored, and the first OFFER in SEEK moves the lane to OFFER. A failed frame at the limit of the silent count loses
the lane. On a lane the part follows a frame does what it does on one the part leads, and the lane then sends one
frame of its own. Whatever a frame does, it forms no reply; other lanes but for their ON-AIR, their health records
and buffers, the lane's binding and settings, port records but for duck profiles, the claims of every entry, and
every block that has no part in a change of lane state stay as they were (R131 to R135, R137, R153; model, log
entries 17 for the syndrome of a frame that fails by its length alone, 21 for the frame a followed lane sends and
44 for a silent count beyond the limit). -/
def Obligations.LaneFramesAreReceived : Prop :=
  ∀ (l : LaneNo) (bytes : List Byte) (s : State), s.resetHeld = false →
    let x := s.lane l
    (x.state = .off ∨ x.state = .barred → exec (.laneFrameReceived l bytes) s = .next s) ∧
    (∃ t, exec (.laneFrameReceived l bytes) s = .next t ∧ s.FormsReplies t [] ∧
      (∀ m, m ≠ l → t.lane m = { s.lane m with onAir := (t.lane m).onAir } ∧
        t.healthRec m = s.healthRec m) ∧
      t.health = { s.health with lanes := t.health.lanes } ∧
      (t.lane l).boundPort = x.boundPort ∧ (t.lane l).enable = x.enable ∧
      (t.lane l).pref = x.pref ∧ (t.lane l).abilities = x.abilities ∧
      (∀ p, t.port p =
        { s.port p with
          profile := (t.port p).profile, pendingProfile := (t.port p).pendingProfile }) ∧
      (∀ d, (t.into d).map Entry.contents = (s.into d).map Entry.contents) ∧
      (∀ k, (∀ p b, x.boundPort = some p → (s.port p).binding = some b → b.buffer ≠ k) →
        t.buffer k = s.buffer k) ∧
      (let kept (y : Talk) : Talk := { y with outcomes := none, heldNotices := [] }
       t.arbiter.talks.map kept = s.arbiter.talks.map kept) ∧
      State.IsBut
        { s with
          lanes := t.lanes, health := t.health, ports := t.ports, ducks := t.ducks, xp := t.xp
          buffers := t.buffers, units := t.units, freeCount := t.freeCount
          arbiter := { s.arbiter with talks := t.arbiter.talks } } t) ∧
    (State.LaneSendsByRole x.state → x.role = some .follow →
      State.FollowsUp (.laneFrameReceived l bytes) l s) ∧
    ((x.state = .doze ∧ 3 ≤ x.silentCount) ∨
        ((x.state = .offer ∨ x.state = .pages ∨ x.state = .live ∨ x.state = .dozeHold ∨
          x.state = .waking) ∧ 31 ≤ x.silentCount) →
      (∃ v, receiveLaneFrame bytes = .failed v) →
      ∃ t, exec (.laneFrameReceived l bytes) s = .next t ∧
        s.Offers t (.laneState l x.boundPort x.state .seek .lost) ∧
        (t.lane l).state = .seek ∧ (t.lane l).lostLatch = true ∧ (t.lane l).txSeq = 0 ∧
        (t.lane l).role = none ∧ (t.lane l).unitHeld = none ∧
        (t.lane l).frameErrors = min 255 (x.frameErrors + 1) ∧
        (t.healthRec l).errors = min 65535 ((s.healthRec l).errors + 1)) ∧
    (x.state ≠ .off → x.state ≠ .barred → x.role ≠ some .follow →
      let failed (v : BitVec 16) : State :=
        (s.modHealthRec l fun h =>
          { h with
            errors := min 65535 (h.errors + 1), syndromeAnd := h.syndromeAnd &&& v
            syndromeOr := h.syndromeOr ||| v, syndromesSeen := true }).modLane l fun x =>
          { x with
            frameErrors := min 255 (x.frameErrors + 1), silentCount := min 255 (x.silentCount + 1)
            silenceTimer :=
              if x.lastSeq = none then none else if x.state = .doze then some 792 else some 72
            keepAliveCallRun := if x.state = .doze then 0 else x.keepAliveCallRun }
      (x.state = .seek ∨ (x.state = .doze ∧ x.silentCount < 3) ∨
          (x.state ≠ .doze ∧ x.silentCount < 31) →
        (∀ v, receiveLaneFrame bytes = .failed (some v) → v ≠ 0 →
          exec (.laneFrameReceived l bytes) s = .next (failed v)) ∧
        (receiveLaneFrame bytes = .failed none ∨ receiveLaneFrame bytes = .failed (some 0) →
          ∃ v, v ≠ 0 ∧ exec (.laneFrameReceived l bytes) s =
            .next { failed v with freeCount := s.freeCount + 1 })) ∧
      ∀ seq word audio, receiveLaneFrame bytes = .good seq word audio →
        (∀ last, x.lastSeq = some last → (seq - last).toNat = 0 ∨ 129 ≤ (seq - last).toNat →
          exec (.laneFrameReceived l bytes) s = .next s) ∧
        ∀ missing,
          (x.lastSeq = none ∧ missing = 0 ∨
            ∃ last, x.lastSeq = some last ∧ 1 ≤ (seq - last).toNat ∧ (seq - last).toNat ≤ 128 ∧
              missing = (seq - last).toNat - 1 - x.silentCount) →
          let accepted : State :=
            (s.modHealthRec l fun h =>
              { h with
                errors := min 65535 (h.errors + missing), framesAccepted := true }).modLane l
              fun x =>
                { x with
                  lastSeq := some seq, silentCount := 0
                  missingFrames := min 255 (x.missingFrames + missing)
                  silenceTimer := some (if x.state = .doze then 792 else 72) }
          (x.state = .seek → (∀ o ack, word ≠ .offer o ack) →
            exec (.laneFrameReceived l bytes) s = .next accepted) ∧
          (x.state = .offer ∨ x.state = .pages →
            (word = .unused ∨ ∃ call doze wake onAir, word = .run call doze wake onAir) →
            exec (.laneFrameReceived l bytes) s = .next accepted) ∧
          ∀ o ack, x.state = .seek → word = .offer o ack → x.unitHeld = none →
            exec (.laneFrameReceived l bytes) s =
              .next (accepted.modLane l fun x =>
                { x with
                  state := .offer, matchedOffer := some o, matchCount := 1, progress := 0
                  remoteCall := false }))

/-- In OFFER a repeated offer is matched up to three times, and with both ACKs the role is resolved: abilities
first, then the table of preferences, then the seeds; a role leads to PAGES, no common profile to a handshake
error, both LEAD or both FOLLOW or a fifth tie to BARRED with ROLE-FAULT, another tie to a new round. In PAGES
new pages are taken in order, ID3 names the unit and settles the profile, and END leads to LIVE (R138, R139,
R142 to R146, R152). The frame is accepted, and the part leads the lane or has no role yet; what a frame leaves
alone, and a lane the part follows, are the matter of the statement LaneFramesAreReceived. -/
def Obligations.HandshakeLeadsToLive : Prop :=
  (∀ part remote : Offer,
    let common := (part.abilities.tight = true ∧ remote.abilities.tight = true) ∨
      (part.abilities.robust = true ∧ remote.abilities.robust = true)
    (¬ common → resolveRole part remote = .noProfile) ∧
    (common →
      (part.pref = remote.pref → part.pref ≠ .either → resolveRole part remote = .roleFault) ∧
      (part.pref ≠ remote.pref → (part.pref = .lead ∨ remote.pref = .follow) →
        resolveRole part remote = .role .lead) ∧
      (part.pref ≠ remote.pref → (part.pref = .follow ∨ remote.pref = .lead) →
        resolveRole part remote = .role .follow) ∧
      (part.pref = .either → remote.pref = .either →
        (remote.seed.toNat < part.seed.toNat → resolveRole part remote = .role .lead) ∧
        (part.seed.toNat < remote.seed.toNat → resolveRole part remote = .role .follow) ∧
        (part.seed = remote.seed → resolveRole part remote = .tie)))) ∧
  ∀ (l : LaneNo) (bytes : List Byte) (s : State) (seq : Byte) (word : LaneWord) (audio : LaneAudio),
    s.resetHeld = false → receiveLaneFrame bytes = .good seq word audio →
    let x := s.lane l
    (∀ last, x.lastSeq = some last → 1 ≤ (seq - last).toNat ∧ (seq - last).toNat ≤ 128) →
    x.role ≠ some .follow →
    let own : Offer := ⟨x.abilities, x.roundPref, x.ownSeed⟩
    let leaves (p : State → Prop) : Prop := ∃ t, exec (.laneFrameReceived l bytes) s = .next t ∧ p t
    let error : Prop :=
      (x.consecutiveErrors < 2 → leaves fun t => s.Silent t ∧ (t.lane l).state = .seek ∧
        (t.lane l).consecutiveErrors = x.consecutiveErrors + 1 ∧ (t.lane l).txSeq = 0) ∧
      (2 ≤ x.consecutiveErrors → leaves fun t =>
        s.Offers t (.laneState l x.boundPort x.state .barred .errors) ∧
          (t.lane l).state = .barred ∧ (t.lane l).barredCount = 1000 ∧
          (t.lane l).consecutiveErrors = 0)
    let fault : Prop := leaves fun t =>
      s.Offers t (.laneState l x.boundPort .offer .barred .roleFault) ∧
        (t.lane l).state = .barred ∧ (t.lane l).roleFaultLatch = true
    (∀ o ack, x.state = .offer → word = .offer o ack →
      (x.tiedOffer = some o → leaves fun t => s.Silent t ∧ (t.lane l).state = .offer ∧
        (t.lane l).matchedOffer = x.matchedOffer ∧ (t.lane l).matchCount = x.matchCount) ∧
      (x.tiedOffer ≠ some o → x.matchedOffer ≠ some o → leaves fun t => s.Silent t ∧
        (t.lane l).state = .offer ∧ (t.lane l).matchedOffer = some o ∧
          (t.lane l).matchCount = 1 ∧ (t.lane l).ownAck = false) ∧
      (x.tiedOffer ≠ some o → x.matchedOffer = some o →
        (ack = false ∨ (x.ownAck = false ∧ x.matchCount < 2) → leaves fun t => s.Silent t ∧
          (t.lane l).state = .offer ∧ (t.lane l).matchedOffer = some o ∧
            (t.lane l).matchCount = min 3 (x.matchCount + 1) ∧
            ((t.lane l).ownAck = true ↔ x.ownAck = true ∨ 2 ≤ x.matchCount)) ∧
        (ack = true → x.ownAck = true ∨ 2 ≤ x.matchCount →
          (resolveRole own o = .role .lead → leaves fun t => s.Silent t ∧
            (t.lane l).state = .pages ∧ (t.lane l).role = some .lead ∧
              (t.lane l).identitySent = s.stationId ∧ (t.lane l).pageSent = .id0 ∧
              (t.lane l).progress = 0) ∧
          (resolveRole own o = .role .follow → leaves fun t => s.Silent t ∧
            (t.lane l).state = .pages ∧ (t.lane l).role = some .follow ∧
              (t.lane l).identitySent = s.stationId ∧ (t.lane l).pageSent = .id0) ∧
          (resolveRole own o = .noProfile → error) ∧
          (resolveRole own o = .roleFault → fault) ∧
          (resolveRole own o = .tie → 4 ≤ x.attempts → fault) ∧
          (resolveRole own o = .tie → x.attempts < 4 → leaves fun t => s.Silent t ∧
            (t.lane l).state = .offer ∧ (t.lane l).attempts = x.attempts + 1 ∧
              (t.lane l).tiedOffer = some o ∧ (t.lane l).matchedOffer = none ∧
              (t.lane l).ownAck = false)))) ∧
    (x.state = .pages → (∃ o ack, word = .offer o ack) → error) ∧
    (∀ page toggle echo payload, x.state = .pages →
      word = .page (pageCodeBits page) toggle echo payload →
      (toggle ≠ x.lastToggle → nextPage? x.pagesAccepted ≠ some page → error) ∧
      (toggle = x.lastToggle → x.pagesAccepted ≠ some page → error) ∧
      (toggle ≠ x.lastToggle → nextPage? x.pagesAccepted = some page →
        (page = .id0 ∨ page = .id1 ∨ page = .id2 → leaves fun t => s.Silent t ∧
          (t.lane l).state = .pages ∧ (t.lane l).pagesAccepted = some page ∧
            (t.lane l).remoteParts = x.remoteParts ++ [payload] ∧
            (t.lane l).lastToggle = toggle ∧
            (echo ≠ x.ownToggle → x.pageSent ≠ .id3 →
              (t.lane l).pageSent = x.pageSent ∧ (t.lane l).ownToggle = x.ownToggle) ∧
            (echo = x.ownToggle → x.pageSent = .id0 →
              (t.lane l).pageSent = .id1 ∧ (t.lane l).ownToggle = !x.ownToggle)) ∧
        (∀ p, page = .id3 → x.boundPort = some p →
          let remote := joinParts (x.remoteParts ++ [payload])
          let offered := (x.matchedOffer.map Offer.abilities).getD {}
          (s.identityMismatch l p remote = true → leaves fun t =>
            s.Offers t (.laneState l x.boundPort .pages .barred .mismatch) ∧
              (t.lane l).state = .barred) ∧
          (s.identityMismatch l p remote = false → leaves fun t =>
            (t.lane l).state = .pages ∧ (t.lane l).unitHeld = some remote ∧
              ((∃ e ∈ s.units, e.identity = remote) ∨ s.units.length < 32 →
                (∃ e ∈ t.units, e.identity = remote ∧ e.connected = true) ∧
                (t.lane l).profile = some
                  (let tight := x.abilities.tight && offered.tight
                   let robust := x.abilities.robust && offered.robust
                   if s.cautionOf remote then (if robust then .robust else .tight)
                   else if tight then .tight else .robust)))) ∧
        (page = .endPage → x.pageSent = .endPage → echo = x.ownToggle →
          x.profile.map profilePayload = some payload → leaves fun t =>
            s.Offers t (.laneState l x.boundPort .pages .live .handshake) ∧
              (t.lane l).state = .live ∧ (t.lane l).consecutiveErrors = 0) ∧
        (page = .endPage →
          (x.pageSent ≠ .endPage ∨ echo ≠ x.ownToggle ∨
            x.profile.map profilePayload ≠ some payload) → error)))

/-- In the run states a frame's blocks, where they fit the profile, start a stopped Path Buffer's playout, are
stored in a running one, are late, or resynchronise it; a ROBUST frame's repeat is judged next, under the sequence
two before, and is never counted late; a RUN word sets the remote call, and its doze requests lead from LIVE through
DOZE-HOLD to DOZE after 500, unless the part has a reason to stay awake; a fitting frame, or a second
keep-alive with CALL, wakes a lane from DOZE, and a fitting frame answers a wake (R135, R152, R154 to R157,
R161, R162; model, log entries 22 and 51). The frame is accepted, and the part leads the lane; what a frame leaves
alone, and a lane the part follows, are the matter of the statement LaneFramesAreReceived. -/
def Obligations.RunFramesPlayDozeAndWake : Prop :=
  ∀ (l : LaneNo) (bytes : List Byte) (s : State) (seq : Byte) (audio : LaneAudio)
    (call dozeReq wake onAir : Bool),
    s.resetHeld = false →
    receiveLaneFrame bytes = .good seq (.run call dozeReq wake onAir) audio →
    let x := s.lane l
    (∀ last, x.lastSeq = some last → 1 ≤ (seq - last).toNat ∧ (seq - last).toNat ≤ 128) →
    x.role ≠ some .follow →
    let leaves (p : State → Prop) : Prop := ∃ t, exec (.laneFrameReceived l bytes) s = .next t ∧ p t
    let dozes := dozeReq = true ∧ call = false ∧ s.keepsAwake l = false
    let fits := (x.profile = some .tight ∧ ∃ new, audio = .one new) ∨
      (x.profile = some .robust ∧ ∃ new again, audio = .two new again)
    (x.state = .live →
      (leaves fun t => (t.lane l).state = (if dozes then .dozeHold else .live) ∧
        (t.lane l).remoteCall = call ∧ (dozes → (t.lane l).dozeRun = 1) ∧
        s.FormsReplies t [] ∧
        (∀ p, x.boundPort = some p → l ∈ (s.port p).boundLanes → s.portRemoteCall p = false →
          call = true → s.QueuesReport t (.remoteCall p l)) ∧
        (call = false → s.QueuesNoReport t)) ∧
      (audio ≠ .short → ¬ fits → leaves fun t => t.buffers = s.buffers ∧
        (t.lane l).frameErrors = min 255 (x.frameErrors + 1)) ∧
      ∀ p b q new, x.boundPort = some p → (s.port p).binding = some b →
        (s.buffer b.buffer).running = true → (s.buffer b.buffer).position = some q →
        x.profile = some .tight → audio = .one new → dozeReq = false →
        ((seq - q).toNat ≤ 7 → (∀ y ∈ (s.buffer b.buffer).copies seq, y.1 ≠ l) →
          leaves fun t => (t.buffer b.buffer).copies seq =
              (s.buffer b.buffer).copies seq ++ [(l, new)] ∧
            (t.buffer b.buffer).position = some q ∧
            ∀ b', b' ≠ b.buffer → t.buffer b' = s.buffer b') ∧
        (8 ≤ (seq - q).toNat → (seq - q).toNat ≤ 127 → leaves fun t =>
          (t.lane l).slips = min 255 (x.slips + 1) ∧
            (t.buffer b.buffer).position = some (seq - BitVec.ofNat 8 b.depth + 1) ∧
            (t.buffer b.buffer).startSeq = some seq ∧
            (t.buffer b.buffer).copies seq = [(l, new)]) ∧
        (128 ≤ (seq - q).toNat → leaves fun t =>
          (t.lane l).lateBlocks = min 255 (x.lateBlocks + 1) ∧ t.buffers = s.buffers)) ∧
    (x.state = .live → dozeReq = false → ∀ p b, x.boundPort = some p →
      (s.port p).binding = some b → 2 ≤ b.depth → b.depth ≤ 8 →
      let held := s.buffer b.buffer
      let first := seq - BitVec.ofNat 8 b.depth + 1
      (held.running = false → held.slots = Table.replicate 8 none → ∀ new,
        ((x.profile = some .tight ∧ audio = .one new) ∨
            ∃ again, x.profile = some .robust ∧ audio = .two new again) → leaves fun t =>
          t.buffer b.buffer =
            { held with
              running := true, position := some first, startSeq := some seq
              slots := (t.buffer b.buffer).slots } ∧
          (t.buffer b.buffer).copies seq = [(l, new)] ∧
          (∀ again, audio = .two new again → (t.buffer b.buffer).copies (seq - 2) =
            if 3 ≤ b.depth then [(l, again)] else []) ∧
          (t.lane l).slips = x.slips ∧ (t.lane l).lateBlocks = x.lateBlocks ∧
          ∀ b', b' ≠ b.buffer → t.buffer b' = s.buffer b') ∧
      ∀ q new again, held.running = true → held.position = some q → x.profile = some .robust →
        audio = .two new again →
        let d := (seq - q).toNat
        (2 ≤ d → d ≤ 7 → (∀ y ∈ held.copies seq, y.1 ≠ l) → leaves fun t =>
          (t.buffer b.buffer).copies seq = held.copies seq ++ [(l, new)] ∧
          ((∀ y ∈ held.copies (seq - 2), y.1 ≠ l) →
            (t.buffer b.buffer).copies (seq - 2) = held.copies (seq - 2) ++ [(l, again)]) ∧
          ((∃ y ∈ held.copies (seq - 2), y.1 = l) →
            (t.buffer b.buffer).copies (seq - 2) = held.copies (seq - 2)) ∧
          (t.buffer b.buffer).position = some q ∧
          (t.lane l).slips = x.slips ∧ (t.lane l).lateBlocks = x.lateBlocks) ∧
        (d ≤ 1 → (∀ y ∈ held.copies seq, y.1 ≠ l) → leaves fun t =>
          t.buffer b.buffer =
            { held with
              slots := held.slots.set (slotOf seq) (some ⟨seq, held.copies seq ++ [(l, new)]⟩) } ∧
          (t.lane l).slips = x.slips ∧ (t.lane l).lateBlocks = x.lateBlocks) ∧
        (8 ≤ d → d ≤ 127 → leaves fun t =>
          (t.buffer b.buffer).position = some first ∧ (t.buffer b.buffer).startSeq = some seq ∧
          (t.buffer b.buffer).copies seq = [(l, new)] ∧
          (t.buffer b.buffer).copies (seq - 2) = (if 3 ≤ b.depth then [(l, again)] else []) ∧
          (t.lane l).slips = min 255 (x.slips + 1) ∧ (t.lane l).lateBlocks = x.lateBlocks) ∧
        (d = 128 ∨ d = 129 → leaves fun t =>
          (t.buffer b.buffer).position = some (seq - 2 - BitVec.ofNat 8 b.depth + 1) ∧
          (t.buffer b.buffer).startSeq = some (seq - 2) ∧
          (t.buffer b.buffer).copies (seq - 2) = [(l, again)] ∧
          (t.lane l).slips = min 255 (x.slips + 1) ∧
          (t.lane l).lateBlocks = min 255 (x.lateBlocks + 1)) ∧
        (130 ≤ d → leaves fun t =>
          (t.lane l).lateBlocks = min 255 (x.lateBlocks + 1) ∧ (t.lane l).slips = x.slips ∧
            t.buffers = s.buffers)) ∧
    (x.state = .dozeHold → audio = .short →
      (dozes → x.dozeRun < 499 → leaves fun t => s.Silent t ∧ (t.lane l).state = .dozeHold ∧
        (t.lane l).dozeRun = x.dozeRun + 1) ∧
      (dozes → 499 ≤ x.dozeRun → leaves fun t =>
        s.Offers t (.laneState l x.boundPort .dozeHold .doze .doze) ∧ (t.lane l).state = .doze) ∧
      (¬ dozes → leaves fun t => (t.lane l).state = .live ∧ (t.lane l).dozeRun = 0 ∧
        (t.lane l).remoteCall = call ∧ s.FormsReplies t [] ∧
        (call = false → s.QueuesNoReport t))) ∧
    (x.state = .waking →
      (fits → leaves fun t => (t.lane l).state = .live ∧ (t.lane l).consecutiveErrors = 0 ∧
        (call = false → s.Offers t (.laneState l x.boundPort .waking .live .woken))) ∧
      (¬ fits → leaves fun t => (t.lane l).state = .waking ∧ t.buffers = s.buffers)) ∧
    (x.state = .doze →
      (fits → leaves fun t => (t.lane l).state = .live ∧ (t.lane l).wakeLatch = true ∧
        s.Offers t (.laneState l x.boundPort .doze .live .remote)) ∧
      (audio = .short → call = true → x.keepAliveCallRun = 0 → leaves fun t => s.Silent t ∧
        (t.lane l).state = .doze ∧ (t.lane l).keepAliveCallRun = 1) ∧
      (audio = .short → call = true → 1 ≤ x.keepAliveCallRun → leaves fun t =>
        (t.lane l).state = .live ∧ (t.lane l).wakeLatch = true ∧
          (t.lane l).remoteCall = true) ∧
      (audio = .short → call = false → leaves fun t => s.Silent t ∧
        (t.lane l).state = .doze ∧ (t.lane l).keepAliveCallRun = 0))

/-- A silence expiry counts one missing frame and one silent period, and at the state's limit loses the lane
to SEEK with LOST latched and reported; a handshake without progress for 250 frames is a handshake error; a
wake unanswered for 2000 frames is reported and leads back to DOZE; a BARRED lane whose count has run out
begins a fresh handshake. On a lane the part follows a silence expiry does what it does on one the part leads, and
the lane then sends one frame. An expiry that is not due changes nothing (R131, R134, R137, R141, R146, R151, R153,
R157; model, log entries 3 for the expiry that is not due, 21 for the frame sent and 44 for a silent count beyond
the limit). -/
def Obligations.LaneExpiries : Prop :=
  ∀ (l : LaneNo) (s : State), s.resetHeld = false →
    let x := s.lane l
    let heard : State := s.modHealthRec l fun h => { h with errors := min 65535 (h.errors + 1) }
    (x.silenceTimer ≠ some 0 → exec (.silenceExpiry l) s = .next s) ∧
    (x.silenceTimer = some 0 → State.LaneSendsByRole x.state → x.role = some .follow →
      State.FollowsUp (.silenceExpiry l) l s) ∧
    (x.silenceTimer = some 0 →
      (x.role ≠ some .follow →
        (x.state = .off ∨ x.state = .seek ∨ x.state = .barred ∨
          (x.state = .doze ∧ x.silentCount < 3) ∨ (x.state ≠ .doze ∧ x.silentCount < 31)) →
        exec (.silenceExpiry l) s =
          .next (heard.modLane l fun x =>
            { x with
              missingFrames := min 255 (x.missingFrames + 1)
              silentCount := min 255 (x.silentCount + 1)
              silenceTimer := some (if x.state = .doze then 768 else 48)
              keepAliveCallRun := if x.state = .doze then 0 else x.keepAliveCallRun })) ∧
      ((x.state = .doze ∧ 3 ≤ x.silentCount) ∨
          ((x.state = .offer ∨ x.state = .pages ∨ x.state = .live ∨ x.state = .dozeHold ∨
            x.state = .waking) ∧ 31 ≤ x.silentCount) →
        ∃ t, exec (.silenceExpiry l) s = .next t ∧
          s.Offers t (.laneState l x.boundPort x.state .seek .lost) ∧
          (t.lane l).state = .seek ∧ (t.lane l).lostLatch = true ∧ (t.lane l).txSeq = 0 ∧
          (t.lane l).role = none ∧ (t.lane l).unitHeld = none ∧
          t.health = heard.health)) ∧
    (let due := (x.state = .offer ∨ x.state = .pages) ∧ 250 ≤ x.progress
     (¬ due → exec (.handshakeTimeout l) s = .next s) ∧
     (due → x.consecutiveErrors < 2 → ∃ t, exec (.handshakeTimeout l) s = .next t ∧ s.Silent t ∧
       (t.lane l).state = .seek ∧ (t.lane l).consecutiveErrors = x.consecutiveErrors + 1 ∧
       (t.lane l).ownSeed = s.timing.stationTime.setWidth 8 ^^^ BitVec.ofNat 8 l.val) ∧
     (due → 2 ≤ x.consecutiveErrors → ∃ t, exec (.handshakeTimeout l) s = .next t ∧
       s.Offers t (.laneState l x.boundPort x.state .barred .errors) ∧
       (t.lane l).state = .barred ∧ (t.lane l).barredCount = 1000 ∧
       (t.lane l).consecutiveErrors = 0)) ∧
    (¬ (x.state = .waking ∧ 2000 ≤ x.wakeCount) → exec (.wakeCountExpiry l) s = .next s) ∧
    (x.state = .waking → 2000 ≤ x.wakeCount → ∃ t, exec (.wakeCountExpiry l) s = .next t ∧
      s.Offers t (.wakeUnanswered l x.boundPort) ∧ (t.lane l).state = .doze ∧
      (t.lane l).keepAliveCallRun = 0 ∧ (t.lane l).unitHeld = x.unitHeld) ∧
    (¬ (x.state = .barred ∧ x.barredCount = 0) → exec (.barredCountExpiry l) s = .next s) ∧
    (x.state = .barred → x.barredCount = 0 → x.unitHeld = none →
      exec (.barredCountExpiry l) s =
        .next (s.modLane l fun x =>
          { x with
            state := .seek, remoteCall := false, role := none, profile := none
            matchedOffer := none, tiedOffer := none, matchCount := 0, attempts := 0, progress := 0
            ownAck := false, roundPref := x.pref
            ownSeed := s.timing.stationTime.setWidth 8 ^^^ BitVec.ofNat 8 l.val
            pageSent := .id0, ownToggle := false, lastToggle := true, pagesAccepted := none
            remoteParts := [], id3Acked := false
            txSeq := 0, sentBlock1 := none, sentBlock2 := none
            lastSeq := none, silentCount := 0, silenceTimer := none }))

/-- LANE-SET enables a bound lane into a fresh handshake or disables a lane into OFF, and otherwise writes
the enable and the preference alone; LANE-GET reads a lane, and its latches and counts are then clear and 0,
with LIVE-HELD set while it is LIVE; LANE-RETUNE sets the abilities in OFF, and in DOZE with a fresh handshake,
and is NOT-QUIET elsewhere; LANE-WAKE wakes a lane in DOZE alone (R149, R150, R158, R160). -/
def Obligations.LaneCommands : Prop :=
  ∀ (tag lane : Byte) (s : State), s.takesCommand = true →
    (24 ≤ lane.toNat →
      (∀ enable pref, Completes (.laneSet tag lane enable pref) s s tag Kind.laneSet .badArg) ∧
      Completes (.laneGet tag lane) s s tag Kind.laneGet .badArg ∧
      (∀ abilities,
        Completes (.laneRetune tag lane abilities) s s tag Kind.laneRetune .badArg) ∧
      Completes (.laneWake tag lane) s s tag Kind.laneWake .badArg) ∧
    ∀ l : LaneNo, lane.toNat = l.val →
      let x := s.lane l
      (∀ enable pref : Byte, 2 ≤ enable.toNat ∨ 3 ≤ pref.toNat →
        Completes (.laneSet tag lane enable pref) s s tag Kind.laneSet .badArg) ∧
      (∀ (enable pref : Byte) (on : Bool) (want : RolePref),
        onOff? enable = some on → rolePref? pref = some want →
        let cmd : Instr := .laneSet tag lane enable pref
        let written : State := s.modLane l fun x => { x with enable := on, pref := want }
        (on = x.enable ∨ (on = true ∧ x.boundPort = none) ∨ (on = false ∧ x.state = .off) →
          Completes cmd s written tag Kind.laneSet .ok) ∧
        (on = true → x.enable = false → x.boundPort ≠ none →
          ∃ t, exec cmd s = .next t ∧ s.Answers t tag Kind.laneSet .ok ∧
            (t.lane l).state = .seek ∧ (t.lane l).enable = true ∧ (t.lane l).pref = want ∧
            (t.lane l).roundPref = want ∧ (t.lane l).txSeq = 0) ∧
        (on = false → x.enable = true → x.state ≠ .off →
          ∃ t, exec cmd s = .next t ∧ s.Answers t tag Kind.laneSet .ok ∧
            (t.lane l).state = .off ∧ (t.lane l).enable = false ∧ (t.lane l).pref = want ∧
            (t.lane l).role = none ∧ (t.lane l).profile = none ∧ (t.lane l).unitHeld = none ∧
            (t.lane l).consecutiveErrors = 0 ∧ (t.lane l).frameErrors = x.frameErrors ∧
            (t.lane l).lostLatch = x.lostLatch)) ∧
      Completes (.laneGet tag lane) s
        (s.modLane l fun x =>
          { x with
            lostLatch := false, wakeLatch := false, roleFaultLatch := false
            liveHeld := decide (x.state = .live), frameErrors := 0, missingFrames := 0
            lateBlocks := 0, slips := 0, pathSwitches := 0 })
        tag Kind.laneGet .ok
        (.lane
          { state := x.state, boundPort := x.boundPort, enable := x.enable, pref := x.pref
            abilities := x.abilities, role := x.role, profile := x.profile
            unitHeld := x.unitHeld, consecutiveErrors := x.consecutiveErrors
            barredCount := x.barredCount, lost := x.lostLatch, wake := x.wakeLatch
            roleFault := x.roleFaultLatch, liveHeld := x.liveHeld
            frameErrors := x.frameErrors, missingFrames := x.missingFrames
            lateBlocks := x.lateBlocks, slips := x.slips, pathSwitches := x.pathSwitches }) ∧
      (∀ abilities : Byte, abilities = 0 ∨ 4 ≤ abilities.toNat →
        Completes (.laneRetune tag lane abilities) s s tag Kind.laneRetune .badArg) ∧
      (∀ abilities : Byte, abilities ≠ 0 → abilities.toNat < 4 →
        let cmd : Instr := .laneRetune tag lane abilities
        let set : Abilities := { tight := abilities.getLsbD 0, robust := abilities.getLsbD 1 }
        (x.state = .off →
          Completes cmd s (s.modLane l fun x => { x with abilities := set }) tag Kind.laneRetune
            .ok) ∧
        (x.state = .doze →
          ∃ t, exec cmd s = .next t ∧ s.Answers t tag Kind.laneRetune .ok ∧
            (t.lane l).state = .seek ∧ (t.lane l).abilities = set ∧ (t.lane l).unitHeld = none ∧
            (t.lane l).txSeq = 0) ∧
        (x.state ≠ .off → x.state ≠ .doze →
          Completes cmd s s tag Kind.laneRetune .notQuiet)) ∧
      (x.state = .doze →
        Completes (.laneWake tag lane) s
          (s.modLane l fun x =>
            { x with
              state := .waking, wakeCount := 0
              silenceTimer := x.silenceTimer.map fun _ => 72 })
          tag Kind.laneWake .ok) ∧
      (x.state ≠ .doze → Completes (.laneWake tag lane) s s tag Kind.laneWake .ok)

/-! ## Contribution health (10) -/

/-- A sweep that is due closes and classifies every bound lane, empties every lane's accumulators, begins the
next sweep, moves the lead from a HARD primary to a LIVE backup that is not, guards a port whose bound lanes
are all HARD where auto-guard is on, and lowers the retention of disconnected units, removing those that reach
0. A connected unit counts its bad sweeps and its good run, is under caution from a lane that turns HARD until a good
run of 20, and keeps the worst class of its lanes. LANE-CLASS reports each class that changed, in lane order, then
PATH-SWAP and GUARD-SET what changed, port by port, then UNIT-FORGOTTEN each unit removed, in table order (R167 to
R171, R174). -/
def Obligations.SweepClassifiesSwapsAndGuards : Prop :=
  ∀ s : State, s.resetHeld = false →
    let elapsed := (s.timing.stationTime - s.health.sweepStart).toNat
    let due := s.health.settings.interval * 48000
    (elapsed < due → exec .sweepExpiry s = .next s) ∧
    (due ≤ elapsed → ∃ t, exec .sweepExpiry s = .next t ∧ s.FormsReplies t [] ∧
      t.health.settings = s.health.settings ∧ t.health.sweepStart = s.timing.stationTime ∧
      (∀ l,
        let h := s.healthRec l
        let and := if h.syndromesSeen then h.syndromeAnd else 0
        let emptied (cls : LaneClass) (bad clean : Nat) (last : Option SweepRecord) : HealthRec :=
          { errors := 0, syndromeAnd := BitVec.allOnes 16, syndromeOr := 0, syndromesSeen := false
            framesAccepted := false, cls := cls, badRun := bad, cleanRun := clean
            lastSweep := last }
        let closed : Option SweepRecord := some ⟨h.errors, and, h.syndromeOr⟩
        ((s.lane l).boundPort = none →
          t.healthRec l = emptied h.cls h.badRun h.cleanRun h.lastSweep) ∧
        ((s.lane l).boundPort ≠ none →
          (h.errors = 0 → h.framesAccepted = false →
            t.healthRec l = emptied h.cls h.badRun h.cleanRun closed) ∧
          (h.errors = 0 → h.framesAccepted = true →
            t.healthRec l =
              emptied (if 4 ≤ h.cleanRun then .good else h.cls) 0 (min 5 (h.cleanRun + 1))
                closed) ∧
          (h.errors ≠ 0 → h.errors < s.health.settings.threshold →
            t.healthRec l = emptied h.cls 0 0 closed) ∧
          (h.errors ≠ 0 → s.health.settings.threshold ≤ h.errors →
            t.healthRec l =
              emptied
                (if 2 ≤ h.badRun ∨ (and ≠ 0 ∧ s.health.settings.hardCount ≤ h.errors) then .hard
                 else .soft)
                (min 3 (h.badRun + 1)) 0 closed))) ∧
      (∀ p b, (s.port p).cls = .remote → (s.port p).binding = some b →
        let lanes := b.primary.toList ++ b.backup.toList
        let swaps : Prop := ∃ first second, b.primary = some first ∧ b.backup = some second ∧
          b.lead = some first ∧ (t.healthRec first).cls = .hard ∧
          (s.lane second).state = .live ∧ (t.healthRec second).cls ≠ .hard
        let guards : Prop := s.health.settings.autoGuard = true ∧ lanes ≠ [] ∧
          ∀ l ∈ lanes, (t.healthRec l).cls = .hard
        ∃ b', (t.port p).binding = some b' ∧
          (swaps → b'.lead = b.backup) ∧ (¬ swaps → b'.lead = b.lead) ∧
          (guards → b'.guarded = true) ∧ (¬ guards → b'.guarded = b.guarded) ∧
          b' = { b with lead := b'.lead, guarded := b'.guarded }) ∧
      t.units.map UnitEntry.identity =
        (s.units.filter fun e => e.connected || decide (1 < e.retentionLeft.getD 0)).map
          UnitEntry.identity ∧
      (∀ e ∈ s.units, e.connected = false → 1 < e.retentionLeft.getD 0 →
        { e with retentionLeft := some (e.retentionLeft.getD 0 - 1) } ∈ t.units) ∧
      (∀ e ∈ s.units, e.connected = true → ∀ l ∈ s.lanesOf e.identity,
        (s.healthRec l).errors ≠ 0 → s.health.settings.threshold ≤ (s.healthRec l).errors →
        ∃ e' ∈ t.units, e'.identity = e.identity ∧ e'.connected = true ∧ e'.goodRun = 0 ∧
          e'.badSweeps = min 65535 (e.badSweeps + 1) ∧
          ((s.healthRec l).cls ≠ .hard → (t.healthRec l).cls = .hard → e'.caution = true)) ∧
      (∀ e ∈ s.units, e.connected = true →
        let lanes := s.lanesOf e.identity
        let bad : Prop := ∃ l ∈ lanes, (s.healthRec l).errors ≠ 0 ∧
          s.health.settings.threshold ≤ (s.healthRec l).errors
        let good : Prop := (∀ l ∈ lanes, (s.healthRec l).errors = 0) ∧
          ∃ l ∈ lanes, (s.healthRec l).framesAccepted = true
        let turnsHard : Prop :=
          ∃ l ∈ lanes, (s.healthRec l).cls ≠ .hard ∧ (t.healthRec l).cls = .hard
        let hasClass (cls : LaneClass) : Prop := ∃ l ∈ lanes, (t.healthRec l).cls = cls
        ∃ e' ∈ t.units, e'.identity = e.identity ∧ e'.connected = true ∧
          (bad → e'.goodRun = 0 ∧ e'.badSweeps = min 65535 (e.badSweeps + 1)) ∧
          (¬ bad → e'.badSweeps = e.badSweeps) ∧
          (good → e'.goodRun = min 255 (e.goodRun + 1)) ∧
          (¬ bad → ¬ good → e'.goodRun = e.goodRun) ∧
          (good → 20 ≤ e'.goodRun → e'.caution = false) ∧
          (¬ (good ∧ 20 ≤ e'.goodRun) → (e'.caution = true ↔ e.caution = true ∨ turnsHard)) ∧
          (lanes = [] → e'.lastClass = e.lastClass) ∧
          (hasClass .hard → e'.lastClass = .hard) ∧
          (¬ hasClass .hard → hasClass .soft → e'.lastClass = .soft) ∧
          (lanes ≠ [] → (∀ l ∈ lanes, (t.healthRec l).cls = .good) → e'.lastClass = .good)) ∧
      s.QueuesReports t
        (((List.finRange 24).filterMap fun l : LaneNo =>
            let h := s.healthRec l
            (s.lane l).boundPort.bind fun p =>
              if (t.healthRec l).cls = h.cls then none
              else some (.laneClass l p h.cls (t.healthRec l).cls
                ⟨h.errors, if h.syndromesSeen then h.syndromeAnd else 0, h.syndromeOr⟩)) ++
          ((List.finRange 64).flatMap fun p : PortNo =>
            match (s.port p).binding, (t.port p).binding with
            | some b, some b' =>
              (match b.primary, b.backup with
                | some first, some second =>
                  if b'.lead = b.lead then [] else [.pathSwap p first second]
                | _, _ => []) ++
              (if b.guarded = false ∧ b'.guarded = true then [.guardSet p] else [])
            | _, _ => []) ++
          ((s.units.filter fun e =>
              !e.connected && decide (e.retentionLeft.getD 0 ≤ 1)).map fun e =>
            .unitForgotten e.identity .expired)) ∧
      State.IsBut
        { s with health := t.health, ports := t.ports, ducks := t.ducks, xp := t.xp
                 arbiter := t.arbiter, lanes := t.lanes, units := t.units } t)

/-- HEALTH-SET replaces the settings, each clamped to its range; GUARD-CLEAR clears a guard flag that is set
and re-states the port's entries, answers OK where none is set, and WRONG-CLASS for a port that is not REMOTE
(R38, R171, R175; model, log entry 37 for a sweep then due at once). The invariant of R28 stands as a
premise of the clearing. -/
def Obligations.HealthSettingsAndGuards : Prop :=
  ∀ (tag : Byte) (s : State), s.takesCommand = true →
    (∀ (interval threshold hardCount : Half) (autoGuard : Byte) (retention : Half),
      let cmd : Instr := .healthSet tag interval threshold hardCount autoGuard retention
      (2 ≤ autoGuard.toNat → Completes cmd s s tag Kind.healthSet .badArg) ∧
      ∀ auto, onOff? autoGuard = some auto →
        Completes cmd s
          { s with health :=
            { s.health with settings :=
              { interval := max 1 (min 3600 interval.toNat)
                threshold := max 1 (min 1000 threshold.toNat)
                hardCount := max 1 (min 1000 hardCount.toNat)
                autoGuard := auto
                retention := max 1 (min 1000 retention.toNat) } } }
          tag Kind.healthSet
          (if (1 ≤ interval.toNat ∧ interval.toNat ≤ 3600) ∧
              (1 ≤ threshold.toNat ∧ threshold.toNat ≤ 1000) ∧
              (1 ≤ hardCount.toNat ∧ hardCount.toNat ≤ 1000) ∧
              (1 ≤ retention.toNat ∧ retention.toNat ≤ 1000) then .ok else .clamped)) ∧
    ∀ port : Byte,
      (64 ≤ port.toNat → Completes (.guardClear tag port) s s tag Kind.guardClear .badArg) ∧
      ∀ p : PortNo, port.toNat = p.val →
        ((s.port p).cls ≠ .remote →
          Completes (.guardClear tag port) s s tag Kind.guardClear .wrongClass) ∧
        ∀ b, (s.port p).cls = .remote → (s.port p).binding = some b →
          (b.guarded = false → Completes (.guardClear tag port) s s tag Kind.guardClear .ok) ∧
          (b.guarded = true → s.CrosspointsSound →
            ∃ t, exec (.guardClear tag port) s = .next t ∧ s.Answers t tag Kind.guardClear .ok ∧
              (t.port p).binding = some { b with guarded := false } ∧
              (∀ q, q ≠ p → (t.port q).binding = (s.port q).binding) ∧
              (∀ d, ∀ e ∈ t.into d, e.source = p ∨ d = p →
                e.state = t.entryState e.source d) ∧
              (∀ d, (t.into d).map Entry.contents = (s.into d).map Entry.contents) ∧
              (∀ d, d ≠ p → ∀ e ∈ s.into d, e.source ≠ p → e ∈ t.into d) ∧
              State.IsBut
                { s with ports := t.ports, ducks := t.ducks, xp := t.xp, arbiter := t.arbiter
                         lanes := t.lanes } t)

/-! ## Invariants -/

/-- Every step keeps the Crosspoint Table sound: its bounds, one entry for a pair, none from a port to itself,
1 to 8 claims of distinct origins, and level and class their maxima (R27, R28). -/
def Obligations.EveryStepKeepsTheCrosspoints : Prop := KeptByEveryStep State.CrosspointsSound

/-- Every step keeps each duck factor between the depth in force and 1024, and at 1024 in OPEN (R56). -/
def Obligations.EveryStepKeepsTheDucks : Prop := KeptByEveryStep State.DucksSound

/-- Every step keeps at most 128 talks with distinct identifiers, at most 32 units with distinct identities, every
lane bound to the one port whose binding names it, bindings on REMOTE ports alone, and jobs of the arbiter that
place and withdraw claims of talks alone (R16, R25, R31, R118, R119, R172). -/
def Obligations.EveryStepKeepsTalksAndUnits : Prop :=
  KeptByEveryStep State.TalksSound ∧ KeptByEveryStep State.UnitsSound ∧
    KeptByEveryStep State.BindingsSound ∧ KeptByEveryStep State.TalkJobSound

/-- Every step keeps the Key Queues within 256 bytes with true counts, the cancel histories in their one form,
the Report Queue within 64, the command FIFO within 8, and the Station Timing Unit as its lock state says (R1,
R4, R5, R68, R69, R103, R177, R181). -/
def Obligations.EveryStepKeepsQueuesAndClock : Prop :=
  KeptByEveryStep State.KeyQueuesSound ∧ KeptByEveryStep State.CancelSound ∧
    KeptByEveryStep State.ReportsBounded ∧ KeptByEveryStep State.FifoBounded ∧
    KeptByEveryStep fun s => s.timing.Sound

/-- The state after reset meets every invariant above (R11, R13, R28, R56, R67, R94, R113, R172). -/
def Obligations.ResetMeetsEveryInvariant : Prop :=
  State.reset.CrosspointsSound ∧ State.reset.DucksSound ∧ State.reset.TalksSound ∧
    State.reset.UnitsSound ∧ State.reset.KeyQueuesSound ∧ State.reset.CancelSound ∧
    State.reset.ReportsBounded ∧ State.reset.FifoBounded ∧ State.reset.timing.Sound ∧
    State.reset.BindingsSound ∧ State.reset.TalkJobSound

end
end

