-- ==== Sys2Proof/Laws/State.lean ====
section
/-! SUPPORT. What each update of the state leaves and sets: one lemma per field and update, all by
`rfl`, so that no later proof unfolds an update. -/

namespace Sys2Proof.Machine.State

/-! ## modPort -/

@[simp] theorem modPort_resetHeld (s : State) (p : PortNo) (f : Port → Port) :
    (s.modPort p f).resetHeld = s.resetHeld := rfl
@[simp] theorem modPort_timing (s : State) (p : PortNo) (f : Port → Port) :
    (s.modPort p f).timing = s.timing := rfl
@[simp] theorem modPort_ports (s : State) (p : PortNo) (f : Port → Port) :
    (s.modPort p f).ports = s.ports.set p (f (s.port p)) := rfl
@[simp] theorem modPort_xp (s : State) (p : PortNo) (f : Port → Port) :
    (s.modPort p f).xp = s.xp := rfl
@[simp] theorem modPort_writer (s : State) (p : PortNo) (f : Port → Port) :
    (s.modPort p f).writer = s.writer := rfl
@[simp] theorem modPort_mix (s : State) (p : PortNo) (f : Port → Port) :
    (s.modPort p f).mix = s.mix := rfl
@[simp] theorem modPort_ducks (s : State) (p : PortNo) (f : Port → Port) :
    (s.modPort p f).ducks = s.ducks := rfl
@[simp] theorem modPort_cancel (s : State) (p : PortNo) (f : Port → Port) :
    (s.modPort p f).cancel = s.cancel := rfl
@[simp] theorem modPort_probe (s : State) (p : PortNo) (f : Port → Port) :
    (s.modPort p f).probe = s.probe := rfl
@[simp] theorem modPort_lines (s : State) (p : PortNo) (f : Port → Port) :
    (s.modPort p f).lines = s.lines := rfl
@[simp] theorem modPort_keyQueues (s : State) (p : PortNo) (f : Port → Port) :
    (s.modPort p f).keyQueues = s.keyQueues := rfl
@[simp] theorem modPort_arbiter (s : State) (p : PortNo) (f : Port → Port) :
    (s.modPort p f).arbiter = s.arbiter := rfl
@[simp] theorem modPort_stationId (s : State) (p : PortNo) (f : Port → Port) :
    (s.modPort p f).stationId = s.stationId := rfl
@[simp] theorem modPort_lanes (s : State) (p : PortNo) (f : Port → Port) :
    (s.modPort p f).lanes = s.lanes := rfl
@[simp] theorem modPort_buffers (s : State) (p : PortNo) (f : Port → Port) :
    (s.modPort p f).buffers = s.buffers := rfl
@[simp] theorem modPort_health (s : State) (p : PortNo) (f : Port → Port) :
    (s.modPort p f).health = s.health := rfl
@[simp] theorem modPort_units (s : State) (p : PortNo) (f : Port → Port) :
    (s.modPort p f).units = s.units := rfl
@[simp] theorem modPort_control (s : State) (p : PortNo) (f : Port → Port) :
    (s.modPort p f).control = s.control := rfl
@[simp] theorem modPort_reports (s : State) (p : PortNo) (f : Port → Port) :
    (s.modPort p f).reports = s.reports := rfl
@[simp] theorem modPort_freeCount (s : State) (p : PortNo) (f : Port → Port) :
    (s.modPort p f).freeCount = s.freeCount := rfl
@[simp] theorem modPort_pending (s : State) (p : PortNo) (f : Port → Port) :
    (s.modPort p f).pending = s.pending := rfl

/-! ## setInto -/

@[simp] theorem setInto_resetHeld (s : State) (d : PortNo) (es : List Entry) :
    (s.setInto d es).resetHeld = s.resetHeld := rfl
@[simp] theorem setInto_timing (s : State) (d : PortNo) (es : List Entry) :
    (s.setInto d es).timing = s.timing := rfl
@[simp] theorem setInto_ports (s : State) (d : PortNo) (es : List Entry) :
    (s.setInto d es).ports = s.ports := rfl
@[simp] theorem setInto_xp (s : State) (d : PortNo) (es : List Entry) :
    (s.setInto d es).xp = s.xp.set d es := rfl
@[simp] theorem setInto_writer (s : State) (d : PortNo) (es : List Entry) :
    (s.setInto d es).writer = s.writer := rfl
@[simp] theorem setInto_mix (s : State) (d : PortNo) (es : List Entry) :
    (s.setInto d es).mix = s.mix := rfl
@[simp] theorem setInto_ducks (s : State) (d : PortNo) (es : List Entry) :
    (s.setInto d es).ducks = s.ducks := rfl
@[simp] theorem setInto_cancel (s : State) (d : PortNo) (es : List Entry) :
    (s.setInto d es).cancel = s.cancel := rfl
@[simp] theorem setInto_probe (s : State) (d : PortNo) (es : List Entry) :
    (s.setInto d es).probe = s.probe := rfl
@[simp] theorem setInto_lines (s : State) (d : PortNo) (es : List Entry) :
    (s.setInto d es).lines = s.lines := rfl
@[simp] theorem setInto_keyQueues (s : State) (d : PortNo) (es : List Entry) :
    (s.setInto d es).keyQueues = s.keyQueues := rfl
@[simp] theorem setInto_arbiter (s : State) (d : PortNo) (es : List Entry) :
    (s.setInto d es).arbiter = s.arbiter := rfl
@[simp] theorem setInto_stationId (s : State) (d : PortNo) (es : List Entry) :
    (s.setInto d es).stationId = s.stationId := rfl
@[simp] theorem setInto_lanes (s : State) (d : PortNo) (es : List Entry) :
    (s.setInto d es).lanes = s.lanes := rfl
@[simp] theorem setInto_buffers (s : State) (d : PortNo) (es : List Entry) :
    (s.setInto d es).buffers = s.buffers := rfl
@[simp] theorem setInto_health (s : State) (d : PortNo) (es : List Entry) :
    (s.setInto d es).health = s.health := rfl
@[simp] theorem setInto_units (s : State) (d : PortNo) (es : List Entry) :
    (s.setInto d es).units = s.units := rfl
@[simp] theorem setInto_control (s : State) (d : PortNo) (es : List Entry) :
    (s.setInto d es).control = s.control := rfl
@[simp] theorem setInto_reports (s : State) (d : PortNo) (es : List Entry) :
    (s.setInto d es).reports = s.reports := rfl
@[simp] theorem setInto_freeCount (s : State) (d : PortNo) (es : List Entry) :
    (s.setInto d es).freeCount = s.freeCount := rfl
@[simp] theorem setInto_pending (s : State) (d : PortNo) (es : List Entry) :
    (s.setInto d es).pending = s.pending := rfl

/-! ## modSlot -/

@[simp] theorem modSlot_resetHeld (s : State) (k : SlotNo) (f : CancelSlot → CancelSlot) :
    (s.modSlot k f).resetHeld = s.resetHeld := rfl
@[simp] theorem modSlot_timing (s : State) (k : SlotNo) (f : CancelSlot → CancelSlot) :
    (s.modSlot k f).timing = s.timing := rfl
@[simp] theorem modSlot_ports (s : State) (k : SlotNo) (f : CancelSlot → CancelSlot) :
    (s.modSlot k f).ports = s.ports := rfl
@[simp] theorem modSlot_xp (s : State) (k : SlotNo) (f : CancelSlot → CancelSlot) :
    (s.modSlot k f).xp = s.xp := rfl
@[simp] theorem modSlot_writer (s : State) (k : SlotNo) (f : CancelSlot → CancelSlot) :
    (s.modSlot k f).writer = s.writer := rfl
@[simp] theorem modSlot_mix (s : State) (k : SlotNo) (f : CancelSlot → CancelSlot) :
    (s.modSlot k f).mix = s.mix := rfl
@[simp] theorem modSlot_ducks (s : State) (k : SlotNo) (f : CancelSlot → CancelSlot) :
    (s.modSlot k f).ducks = s.ducks := rfl
@[simp] theorem modSlot_cancel (s : State) (k : SlotNo) (f : CancelSlot → CancelSlot) :
    (s.modSlot k f).cancel = s.cancel.set k (f (s.slot k)) := rfl
@[simp] theorem modSlot_probe (s : State) (k : SlotNo) (f : CancelSlot → CancelSlot) :
    (s.modSlot k f).probe = s.probe := rfl
@[simp] theorem modSlot_lines (s : State) (k : SlotNo) (f : CancelSlot → CancelSlot) :
    (s.modSlot k f).lines = s.lines := rfl
@[simp] theorem modSlot_keyQueues (s : State) (k : SlotNo) (f : CancelSlot → CancelSlot) :
    (s.modSlot k f).keyQueues = s.keyQueues := rfl
@[simp] theorem modSlot_arbiter (s : State) (k : SlotNo) (f : CancelSlot → CancelSlot) :
    (s.modSlot k f).arbiter = s.arbiter := rfl
@[simp] theorem modSlot_stationId (s : State) (k : SlotNo) (f : CancelSlot → CancelSlot) :
    (s.modSlot k f).stationId = s.stationId := rfl
@[simp] theorem modSlot_lanes (s : State) (k : SlotNo) (f : CancelSlot → CancelSlot) :
    (s.modSlot k f).lanes = s.lanes := rfl
@[simp] theorem modSlot_buffers (s : State) (k : SlotNo) (f : CancelSlot → CancelSlot) :
    (s.modSlot k f).buffers = s.buffers := rfl
@[simp] theorem modSlot_health (s : State) (k : SlotNo) (f : CancelSlot → CancelSlot) :
    (s.modSlot k f).health = s.health := rfl
@[simp] theorem modSlot_units (s : State) (k : SlotNo) (f : CancelSlot → CancelSlot) :
    (s.modSlot k f).units = s.units := rfl
@[simp] theorem modSlot_control (s : State) (k : SlotNo) (f : CancelSlot → CancelSlot) :
    (s.modSlot k f).control = s.control := rfl
@[simp] theorem modSlot_reports (s : State) (k : SlotNo) (f : CancelSlot → CancelSlot) :
    (s.modSlot k f).reports = s.reports := rfl
@[simp] theorem modSlot_freeCount (s : State) (k : SlotNo) (f : CancelSlot → CancelSlot) :
    (s.modSlot k f).freeCount = s.freeCount := rfl
@[simp] theorem modSlot_pending (s : State) (k : SlotNo) (f : CancelSlot → CancelSlot) :
    (s.modSlot k f).pending = s.pending := rfl

/-! ## modLine -/

@[simp] theorem modLine_resetHeld (s : State) (l : LineNo) (f : PanelLine → PanelLine) :
    (s.modLine l f).resetHeld = s.resetHeld := rfl
@[simp] theorem modLine_timing (s : State) (l : LineNo) (f : PanelLine → PanelLine) :
    (s.modLine l f).timing = s.timing := rfl
@[simp] theorem modLine_ports (s : State) (l : LineNo) (f : PanelLine → PanelLine) :
    (s.modLine l f).ports = s.ports := rfl
@[simp] theorem modLine_xp (s : State) (l : LineNo) (f : PanelLine → PanelLine) :
    (s.modLine l f).xp = s.xp := rfl
@[simp] theorem modLine_writer (s : State) (l : LineNo) (f : PanelLine → PanelLine) :
    (s.modLine l f).writer = s.writer := rfl
@[simp] theorem modLine_mix (s : State) (l : LineNo) (f : PanelLine → PanelLine) :
    (s.modLine l f).mix = s.mix := rfl
@[simp] theorem modLine_ducks (s : State) (l : LineNo) (f : PanelLine → PanelLine) :
    (s.modLine l f).ducks = s.ducks := rfl
@[simp] theorem modLine_cancel (s : State) (l : LineNo) (f : PanelLine → PanelLine) :
    (s.modLine l f).cancel = s.cancel := rfl
@[simp] theorem modLine_probe (s : State) (l : LineNo) (f : PanelLine → PanelLine) :
    (s.modLine l f).probe = s.probe := rfl
@[simp] theorem modLine_lines (s : State) (l : LineNo) (f : PanelLine → PanelLine) :
    (s.modLine l f).lines = s.lines.set l (f (s.line l)) := rfl
@[simp] theorem modLine_keyQueues (s : State) (l : LineNo) (f : PanelLine → PanelLine) :
    (s.modLine l f).keyQueues = s.keyQueues := rfl
@[simp] theorem modLine_arbiter (s : State) (l : LineNo) (f : PanelLine → PanelLine) :
    (s.modLine l f).arbiter = s.arbiter := rfl
@[simp] theorem modLine_stationId (s : State) (l : LineNo) (f : PanelLine → PanelLine) :
    (s.modLine l f).stationId = s.stationId := rfl
@[simp] theorem modLine_lanes (s : State) (l : LineNo) (f : PanelLine → PanelLine) :
    (s.modLine l f).lanes = s.lanes := rfl
@[simp] theorem modLine_buffers (s : State) (l : LineNo) (f : PanelLine → PanelLine) :
    (s.modLine l f).buffers = s.buffers := rfl
@[simp] theorem modLine_health (s : State) (l : LineNo) (f : PanelLine → PanelLine) :
    (s.modLine l f).health = s.health := rfl
@[simp] theorem modLine_units (s : State) (l : LineNo) (f : PanelLine → PanelLine) :
    (s.modLine l f).units = s.units := rfl
@[simp] theorem modLine_control (s : State) (l : LineNo) (f : PanelLine → PanelLine) :
    (s.modLine l f).control = s.control := rfl
@[simp] theorem modLine_reports (s : State) (l : LineNo) (f : PanelLine → PanelLine) :
    (s.modLine l f).reports = s.reports := rfl
@[simp] theorem modLine_freeCount (s : State) (l : LineNo) (f : PanelLine → PanelLine) :
    (s.modLine l f).freeCount = s.freeCount := rfl
@[simp] theorem modLine_pending (s : State) (l : LineNo) (f : PanelLine → PanelLine) :
    (s.modLine l f).pending = s.pending := rfl

/-! ## modPanel -/

@[simp] theorem modPanel_resetHeld (s : State) (l : LineNo) (a : PanelAddr) (f : PanelRec → PanelRec) :
    (s.modPanel l a f).resetHeld = s.resetHeld := rfl
@[simp] theorem modPanel_timing (s : State) (l : LineNo) (a : PanelAddr) (f : PanelRec → PanelRec) :
    (s.modPanel l a f).timing = s.timing := rfl
@[simp] theorem modPanel_ports (s : State) (l : LineNo) (a : PanelAddr) (f : PanelRec → PanelRec) :
    (s.modPanel l a f).ports = s.ports := rfl
@[simp] theorem modPanel_xp (s : State) (l : LineNo) (a : PanelAddr) (f : PanelRec → PanelRec) :
    (s.modPanel l a f).xp = s.xp := rfl
@[simp] theorem modPanel_writer (s : State) (l : LineNo) (a : PanelAddr) (f : PanelRec → PanelRec) :
    (s.modPanel l a f).writer = s.writer := rfl
@[simp] theorem modPanel_mix (s : State) (l : LineNo) (a : PanelAddr) (f : PanelRec → PanelRec) :
    (s.modPanel l a f).mix = s.mix := rfl
@[simp] theorem modPanel_ducks (s : State) (l : LineNo) (a : PanelAddr) (f : PanelRec → PanelRec) :
    (s.modPanel l a f).ducks = s.ducks := rfl
@[simp] theorem modPanel_cancel (s : State) (l : LineNo) (a : PanelAddr) (f : PanelRec → PanelRec) :
    (s.modPanel l a f).cancel = s.cancel := rfl
@[simp] theorem modPanel_probe (s : State) (l : LineNo) (a : PanelAddr) (f : PanelRec → PanelRec) :
    (s.modPanel l a f).probe = s.probe := rfl
@[simp] theorem modPanel_keyQueues (s : State) (l : LineNo) (a : PanelAddr) (f : PanelRec → PanelRec) :
    (s.modPanel l a f).keyQueues = s.keyQueues := rfl
@[simp] theorem modPanel_arbiter (s : State) (l : LineNo) (a : PanelAddr) (f : PanelRec → PanelRec) :
    (s.modPanel l a f).arbiter = s.arbiter := rfl
@[simp] theorem modPanel_stationId (s : State) (l : LineNo) (a : PanelAddr) (f : PanelRec → PanelRec) :
    (s.modPanel l a f).stationId = s.stationId := rfl
@[simp] theorem modPanel_lanes (s : State) (l : LineNo) (a : PanelAddr) (f : PanelRec → PanelRec) :
    (s.modPanel l a f).lanes = s.lanes := rfl
@[simp] theorem modPanel_buffers (s : State) (l : LineNo) (a : PanelAddr) (f : PanelRec → PanelRec) :
    (s.modPanel l a f).buffers = s.buffers := rfl
@[simp] theorem modPanel_health (s : State) (l : LineNo) (a : PanelAddr) (f : PanelRec → PanelRec) :
    (s.modPanel l a f).health = s.health := rfl
@[simp] theorem modPanel_units (s : State) (l : LineNo) (a : PanelAddr) (f : PanelRec → PanelRec) :
    (s.modPanel l a f).units = s.units := rfl
@[simp] theorem modPanel_control (s : State) (l : LineNo) (a : PanelAddr) (f : PanelRec → PanelRec) :
    (s.modPanel l a f).control = s.control := rfl
@[simp] theorem modPanel_reports (s : State) (l : LineNo) (a : PanelAddr) (f : PanelRec → PanelRec) :
    (s.modPanel l a f).reports = s.reports := rfl
@[simp] theorem modPanel_freeCount (s : State) (l : LineNo) (a : PanelAddr) (f : PanelRec → PanelRec) :
    (s.modPanel l a f).freeCount = s.freeCount := rfl
@[simp] theorem modPanel_pending (s : State) (l : LineNo) (a : PanelAddr) (f : PanelRec → PanelRec) :
    (s.modPanel l a f).pending = s.pending := rfl

/-! ## modKeyQueue -/

@[simp] theorem modKeyQueue_resetHeld (s : State) (l : LineNo) (f : KeyQueue → KeyQueue) :
    (s.modKeyQueue l f).resetHeld = s.resetHeld := rfl
@[simp] theorem modKeyQueue_timing (s : State) (l : LineNo) (f : KeyQueue → KeyQueue) :
    (s.modKeyQueue l f).timing = s.timing := rfl
@[simp] theorem modKeyQueue_ports (s : State) (l : LineNo) (f : KeyQueue → KeyQueue) :
    (s.modKeyQueue l f).ports = s.ports := rfl
@[simp] theorem modKeyQueue_xp (s : State) (l : LineNo) (f : KeyQueue → KeyQueue) :
    (s.modKeyQueue l f).xp = s.xp := rfl
@[simp] theorem modKeyQueue_writer (s : State) (l : LineNo) (f : KeyQueue → KeyQueue) :
    (s.modKeyQueue l f).writer = s.writer := rfl
@[simp] theorem modKeyQueue_mix (s : State) (l : LineNo) (f : KeyQueue → KeyQueue) :
    (s.modKeyQueue l f).mix = s.mix := rfl
@[simp] theorem modKeyQueue_ducks (s : State) (l : LineNo) (f : KeyQueue → KeyQueue) :
    (s.modKeyQueue l f).ducks = s.ducks := rfl
@[simp] theorem modKeyQueue_cancel (s : State) (l : LineNo) (f : KeyQueue → KeyQueue) :
    (s.modKeyQueue l f).cancel = s.cancel := rfl
@[simp] theorem modKeyQueue_probe (s : State) (l : LineNo) (f : KeyQueue → KeyQueue) :
    (s.modKeyQueue l f).probe = s.probe := rfl
@[simp] theorem modKeyQueue_lines (s : State) (l : LineNo) (f : KeyQueue → KeyQueue) :
    (s.modKeyQueue l f).lines = s.lines := rfl
@[simp] theorem modKeyQueue_keyQueues (s : State) (l : LineNo) (f : KeyQueue → KeyQueue) :
    (s.modKeyQueue l f).keyQueues = s.keyQueues.set l (f (s.keyQueue l)) := rfl
@[simp] theorem modKeyQueue_arbiter (s : State) (l : LineNo) (f : KeyQueue → KeyQueue) :
    (s.modKeyQueue l f).arbiter = s.arbiter := rfl
@[simp] theorem modKeyQueue_stationId (s : State) (l : LineNo) (f : KeyQueue → KeyQueue) :
    (s.modKeyQueue l f).stationId = s.stationId := rfl
@[simp] theorem modKeyQueue_lanes (s : State) (l : LineNo) (f : KeyQueue → KeyQueue) :
    (s.modKeyQueue l f).lanes = s.lanes := rfl
@[simp] theorem modKeyQueue_buffers (s : State) (l : LineNo) (f : KeyQueue → KeyQueue) :
    (s.modKeyQueue l f).buffers = s.buffers := rfl
@[simp] theorem modKeyQueue_health (s : State) (l : LineNo) (f : KeyQueue → KeyQueue) :
    (s.modKeyQueue l f).health = s.health := rfl
@[simp] theorem modKeyQueue_units (s : State) (l : LineNo) (f : KeyQueue → KeyQueue) :
    (s.modKeyQueue l f).units = s.units := rfl
@[simp] theorem modKeyQueue_control (s : State) (l : LineNo) (f : KeyQueue → KeyQueue) :
    (s.modKeyQueue l f).control = s.control := rfl
@[simp] theorem modKeyQueue_reports (s : State) (l : LineNo) (f : KeyQueue → KeyQueue) :
    (s.modKeyQueue l f).reports = s.reports := rfl
@[simp] theorem modKeyQueue_freeCount (s : State) (l : LineNo) (f : KeyQueue → KeyQueue) :
    (s.modKeyQueue l f).freeCount = s.freeCount := rfl
@[simp] theorem modKeyQueue_pending (s : State) (l : LineNo) (f : KeyQueue → KeyQueue) :
    (s.modKeyQueue l f).pending = s.pending := rfl

/-! ## modArbiter -/

@[simp] theorem modArbiter_resetHeld (s : State) (f : Arbiter → Arbiter) :
    (s.modArbiter f).resetHeld = s.resetHeld := rfl
@[simp] theorem modArbiter_timing (s : State) (f : Arbiter → Arbiter) :
    (s.modArbiter f).timing = s.timing := rfl
@[simp] theorem modArbiter_ports (s : State) (f : Arbiter → Arbiter) :
    (s.modArbiter f).ports = s.ports := rfl
@[simp] theorem modArbiter_xp (s : State) (f : Arbiter → Arbiter) :
    (s.modArbiter f).xp = s.xp := rfl
@[simp] theorem modArbiter_writer (s : State) (f : Arbiter → Arbiter) :
    (s.modArbiter f).writer = s.writer := rfl
@[simp] theorem modArbiter_mix (s : State) (f : Arbiter → Arbiter) :
    (s.modArbiter f).mix = s.mix := rfl
@[simp] theorem modArbiter_ducks (s : State) (f : Arbiter → Arbiter) :
    (s.modArbiter f).ducks = s.ducks := rfl
@[simp] theorem modArbiter_cancel (s : State) (f : Arbiter → Arbiter) :
    (s.modArbiter f).cancel = s.cancel := rfl
@[simp] theorem modArbiter_probe (s : State) (f : Arbiter → Arbiter) :
    (s.modArbiter f).probe = s.probe := rfl
@[simp] theorem modArbiter_lines (s : State) (f : Arbiter → Arbiter) :
    (s.modArbiter f).lines = s.lines := rfl
@[simp] theorem modArbiter_keyQueues (s : State) (f : Arbiter → Arbiter) :
    (s.modArbiter f).keyQueues = s.keyQueues := rfl
@[simp] theorem modArbiter_arbiter (s : State) (f : Arbiter → Arbiter) :
    (s.modArbiter f).arbiter = f s.arbiter := rfl
@[simp] theorem modArbiter_stationId (s : State) (f : Arbiter → Arbiter) :
    (s.modArbiter f).stationId = s.stationId := rfl
@[simp] theorem modArbiter_lanes (s : State) (f : Arbiter → Arbiter) :
    (s.modArbiter f).lanes = s.lanes := rfl
@[simp] theorem modArbiter_buffers (s : State) (f : Arbiter → Arbiter) :
    (s.modArbiter f).buffers = s.buffers := rfl
@[simp] theorem modArbiter_health (s : State) (f : Arbiter → Arbiter) :
    (s.modArbiter f).health = s.health := rfl
@[simp] theorem modArbiter_units (s : State) (f : Arbiter → Arbiter) :
    (s.modArbiter f).units = s.units := rfl
@[simp] theorem modArbiter_control (s : State) (f : Arbiter → Arbiter) :
    (s.modArbiter f).control = s.control := rfl
@[simp] theorem modArbiter_reports (s : State) (f : Arbiter → Arbiter) :
    (s.modArbiter f).reports = s.reports := rfl
@[simp] theorem modArbiter_freeCount (s : State) (f : Arbiter → Arbiter) :
    (s.modArbiter f).freeCount = s.freeCount := rfl
@[simp] theorem modArbiter_pending (s : State) (f : Arbiter → Arbiter) :
    (s.modArbiter f).pending = s.pending := rfl

/-! ## modKey -/

@[simp] theorem modKey_resetHeld (s : State) (k : KeyId) (f : KeyCell → KeyCell) :
    (s.modKey k f).resetHeld = s.resetHeld := rfl
@[simp] theorem modKey_timing (s : State) (k : KeyId) (f : KeyCell → KeyCell) :
    (s.modKey k f).timing = s.timing := rfl
@[simp] theorem modKey_ports (s : State) (k : KeyId) (f : KeyCell → KeyCell) :
    (s.modKey k f).ports = s.ports := rfl
@[simp] theorem modKey_xp (s : State) (k : KeyId) (f : KeyCell → KeyCell) :
    (s.modKey k f).xp = s.xp := rfl
@[simp] theorem modKey_writer (s : State) (k : KeyId) (f : KeyCell → KeyCell) :
    (s.modKey k f).writer = s.writer := rfl
@[simp] theorem modKey_mix (s : State) (k : KeyId) (f : KeyCell → KeyCell) :
    (s.modKey k f).mix = s.mix := rfl
@[simp] theorem modKey_ducks (s : State) (k : KeyId) (f : KeyCell → KeyCell) :
    (s.modKey k f).ducks = s.ducks := rfl
@[simp] theorem modKey_cancel (s : State) (k : KeyId) (f : KeyCell → KeyCell) :
    (s.modKey k f).cancel = s.cancel := rfl
@[simp] theorem modKey_probe (s : State) (k : KeyId) (f : KeyCell → KeyCell) :
    (s.modKey k f).probe = s.probe := rfl
@[simp] theorem modKey_lines (s : State) (k : KeyId) (f : KeyCell → KeyCell) :
    (s.modKey k f).lines = s.lines := rfl
@[simp] theorem modKey_keyQueues (s : State) (k : KeyId) (f : KeyCell → KeyCell) :
    (s.modKey k f).keyQueues = s.keyQueues := rfl
@[simp] theorem modKey_stationId (s : State) (k : KeyId) (f : KeyCell → KeyCell) :
    (s.modKey k f).stationId = s.stationId := rfl
@[simp] theorem modKey_lanes (s : State) (k : KeyId) (f : KeyCell → KeyCell) :
    (s.modKey k f).lanes = s.lanes := rfl
@[simp] theorem modKey_buffers (s : State) (k : KeyId) (f : KeyCell → KeyCell) :
    (s.modKey k f).buffers = s.buffers := rfl
@[simp] theorem modKey_health (s : State) (k : KeyId) (f : KeyCell → KeyCell) :
    (s.modKey k f).health = s.health := rfl
@[simp] theorem modKey_units (s : State) (k : KeyId) (f : KeyCell → KeyCell) :
    (s.modKey k f).units = s.units := rfl
@[simp] theorem modKey_control (s : State) (k : KeyId) (f : KeyCell → KeyCell) :
    (s.modKey k f).control = s.control := rfl
@[simp] theorem modKey_reports (s : State) (k : KeyId) (f : KeyCell → KeyCell) :
    (s.modKey k f).reports = s.reports := rfl
@[simp] theorem modKey_freeCount (s : State) (k : KeyId) (f : KeyCell → KeyCell) :
    (s.modKey k f).freeCount = s.freeCount := rfl
@[simp] theorem modKey_pending (s : State) (k : KeyId) (f : KeyCell → KeyCell) :
    (s.modKey k f).pending = s.pending := rfl

/-! ## modTalk -/

@[simp] theorem modTalk_resetHeld (s : State) (id : TalkId) (f : Talk → Talk) :
    (s.modTalk id f).resetHeld = s.resetHeld := rfl
@[simp] theorem modTalk_timing (s : State) (id : TalkId) (f : Talk → Talk) :
    (s.modTalk id f).timing = s.timing := rfl
@[simp] theorem modTalk_ports (s : State) (id : TalkId) (f : Talk → Talk) :
    (s.modTalk id f).ports = s.ports := rfl
@[simp] theorem modTalk_xp (s : State) (id : TalkId) (f : Talk → Talk) :
    (s.modTalk id f).xp = s.xp := rfl
@[simp] theorem modTalk_writer (s : State) (id : TalkId) (f : Talk → Talk) :
    (s.modTalk id f).writer = s.writer := rfl
@[simp] theorem modTalk_mix (s : State) (id : TalkId) (f : Talk → Talk) :
    (s.modTalk id f).mix = s.mix := rfl
@[simp] theorem modTalk_ducks (s : State) (id : TalkId) (f : Talk → Talk) :
    (s.modTalk id f).ducks = s.ducks := rfl
@[simp] theorem modTalk_cancel (s : State) (id : TalkId) (f : Talk → Talk) :
    (s.modTalk id f).cancel = s.cancel := rfl
@[simp] theorem modTalk_probe (s : State) (id : TalkId) (f : Talk → Talk) :
    (s.modTalk id f).probe = s.probe := rfl
@[simp] theorem modTalk_lines (s : State) (id : TalkId) (f : Talk → Talk) :
    (s.modTalk id f).lines = s.lines := rfl
@[simp] theorem modTalk_keyQueues (s : State) (id : TalkId) (f : Talk → Talk) :
    (s.modTalk id f).keyQueues = s.keyQueues := rfl
@[simp] theorem modTalk_stationId (s : State) (id : TalkId) (f : Talk → Talk) :
    (s.modTalk id f).stationId = s.stationId := rfl
@[simp] theorem modTalk_lanes (s : State) (id : TalkId) (f : Talk → Talk) :
    (s.modTalk id f).lanes = s.lanes := rfl
@[simp] theorem modTalk_buffers (s : State) (id : TalkId) (f : Talk → Talk) :
    (s.modTalk id f).buffers = s.buffers := rfl
@[simp] theorem modTalk_health (s : State) (id : TalkId) (f : Talk → Talk) :
    (s.modTalk id f).health = s.health := rfl
@[simp] theorem modTalk_units (s : State) (id : TalkId) (f : Talk → Talk) :
    (s.modTalk id f).units = s.units := rfl
@[simp] theorem modTalk_control (s : State) (id : TalkId) (f : Talk → Talk) :
    (s.modTalk id f).control = s.control := rfl
@[simp] theorem modTalk_reports (s : State) (id : TalkId) (f : Talk → Talk) :
    (s.modTalk id f).reports = s.reports := rfl
@[simp] theorem modTalk_freeCount (s : State) (id : TalkId) (f : Talk → Talk) :
    (s.modTalk id f).freeCount = s.freeCount := rfl
@[simp] theorem modTalk_pending (s : State) (id : TalkId) (f : Talk → Talk) :
    (s.modTalk id f).pending = s.pending := rfl

/-! ## modLane -/

@[simp] theorem modLane_resetHeld (s : State) (l : LaneNo) (f : Lane → Lane) :
    (s.modLane l f).resetHeld = s.resetHeld := rfl
@[simp] theorem modLane_timing (s : State) (l : LaneNo) (f : Lane → Lane) :
    (s.modLane l f).timing = s.timing := rfl
@[simp] theorem modLane_ports (s : State) (l : LaneNo) (f : Lane → Lane) :
    (s.modLane l f).ports = s.ports := rfl
@[simp] theorem modLane_xp (s : State) (l : LaneNo) (f : Lane → Lane) :
    (s.modLane l f).xp = s.xp := rfl
@[simp] theorem modLane_writer (s : State) (l : LaneNo) (f : Lane → Lane) :
    (s.modLane l f).writer = s.writer := rfl
@[simp] theorem modLane_mix (s : State) (l : LaneNo) (f : Lane → Lane) :
    (s.modLane l f).mix = s.mix := rfl
@[simp] theorem modLane_ducks (s : State) (l : LaneNo) (f : Lane → Lane) :
    (s.modLane l f).ducks = s.ducks := rfl
@[simp] theorem modLane_cancel (s : State) (l : LaneNo) (f : Lane → Lane) :
    (s.modLane l f).cancel = s.cancel := rfl
@[simp] theorem modLane_probe (s : State) (l : LaneNo) (f : Lane → Lane) :
    (s.modLane l f).probe = s.probe := rfl
@[simp] theorem modLane_lines (s : State) (l : LaneNo) (f : Lane → Lane) :
    (s.modLane l f).lines = s.lines := rfl
@[simp] theorem modLane_keyQueues (s : State) (l : LaneNo) (f : Lane → Lane) :
    (s.modLane l f).keyQueues = s.keyQueues := rfl
@[simp] theorem modLane_arbiter (s : State) (l : LaneNo) (f : Lane → Lane) :
    (s.modLane l f).arbiter = s.arbiter := rfl
@[simp] theorem modLane_stationId (s : State) (l : LaneNo) (f : Lane → Lane) :
    (s.modLane l f).stationId = s.stationId := rfl
@[simp] theorem modLane_lanes (s : State) (l : LaneNo) (f : Lane → Lane) :
    (s.modLane l f).lanes = s.lanes.set l (f (s.lane l)) := rfl
@[simp] theorem modLane_buffers (s : State) (l : LaneNo) (f : Lane → Lane) :
    (s.modLane l f).buffers = s.buffers := rfl
@[simp] theorem modLane_health (s : State) (l : LaneNo) (f : Lane → Lane) :
    (s.modLane l f).health = s.health := rfl
@[simp] theorem modLane_units (s : State) (l : LaneNo) (f : Lane → Lane) :
    (s.modLane l f).units = s.units := rfl
@[simp] theorem modLane_control (s : State) (l : LaneNo) (f : Lane → Lane) :
    (s.modLane l f).control = s.control := rfl
@[simp] theorem modLane_reports (s : State) (l : LaneNo) (f : Lane → Lane) :
    (s.modLane l f).reports = s.reports := rfl
@[simp] theorem modLane_freeCount (s : State) (l : LaneNo) (f : Lane → Lane) :
    (s.modLane l f).freeCount = s.freeCount := rfl
@[simp] theorem modLane_pending (s : State) (l : LaneNo) (f : Lane → Lane) :
    (s.modLane l f).pending = s.pending := rfl

/-! ## modBuffer -/

@[simp] theorem modBuffer_resetHeld (s : State) (b : BufNo) (f : PathBuf → PathBuf) :
    (s.modBuffer b f).resetHeld = s.resetHeld := rfl
@[simp] theorem modBuffer_timing (s : State) (b : BufNo) (f : PathBuf → PathBuf) :
    (s.modBuffer b f).timing = s.timing := rfl
@[simp] theorem modBuffer_ports (s : State) (b : BufNo) (f : PathBuf → PathBuf) :
    (s.modBuffer b f).ports = s.ports := rfl
@[simp] theorem modBuffer_xp (s : State) (b : BufNo) (f : PathBuf → PathBuf) :
    (s.modBuffer b f).xp = s.xp := rfl
@[simp] theorem modBuffer_writer (s : State) (b : BufNo) (f : PathBuf → PathBuf) :
    (s.modBuffer b f).writer = s.writer := rfl
@[simp] theorem modBuffer_mix (s : State) (b : BufNo) (f : PathBuf → PathBuf) :
    (s.modBuffer b f).mix = s.mix := rfl
@[simp] theorem modBuffer_ducks (s : State) (b : BufNo) (f : PathBuf → PathBuf) :
    (s.modBuffer b f).ducks = s.ducks := rfl
@[simp] theorem modBuffer_cancel (s : State) (b : BufNo) (f : PathBuf → PathBuf) :
    (s.modBuffer b f).cancel = s.cancel := rfl
@[simp] theorem modBuffer_probe (s : State) (b : BufNo) (f : PathBuf → PathBuf) :
    (s.modBuffer b f).probe = s.probe := rfl
@[simp] theorem modBuffer_lines (s : State) (b : BufNo) (f : PathBuf → PathBuf) :
    (s.modBuffer b f).lines = s.lines := rfl
@[simp] theorem modBuffer_keyQueues (s : State) (b : BufNo) (f : PathBuf → PathBuf) :
    (s.modBuffer b f).keyQueues = s.keyQueues := rfl
@[simp] theorem modBuffer_arbiter (s : State) (b : BufNo) (f : PathBuf → PathBuf) :
    (s.modBuffer b f).arbiter = s.arbiter := rfl
@[simp] theorem modBuffer_stationId (s : State) (b : BufNo) (f : PathBuf → PathBuf) :
    (s.modBuffer b f).stationId = s.stationId := rfl
@[simp] theorem modBuffer_lanes (s : State) (b : BufNo) (f : PathBuf → PathBuf) :
    (s.modBuffer b f).lanes = s.lanes := rfl
@[simp] theorem modBuffer_buffers (s : State) (b : BufNo) (f : PathBuf → PathBuf) :
    (s.modBuffer b f).buffers = s.buffers.set b (f (s.buffer b)) := rfl
@[simp] theorem modBuffer_health (s : State) (b : BufNo) (f : PathBuf → PathBuf) :
    (s.modBuffer b f).health = s.health := rfl
@[simp] theorem modBuffer_units (s : State) (b : BufNo) (f : PathBuf → PathBuf) :
    (s.modBuffer b f).units = s.units := rfl
@[simp] theorem modBuffer_control (s : State) (b : BufNo) (f : PathBuf → PathBuf) :
    (s.modBuffer b f).control = s.control := rfl
@[simp] theorem modBuffer_reports (s : State) (b : BufNo) (f : PathBuf → PathBuf) :
    (s.modBuffer b f).reports = s.reports := rfl
@[simp] theorem modBuffer_freeCount (s : State) (b : BufNo) (f : PathBuf → PathBuf) :
    (s.modBuffer b f).freeCount = s.freeCount := rfl
@[simp] theorem modBuffer_pending (s : State) (b : BufNo) (f : PathBuf → PathBuf) :
    (s.modBuffer b f).pending = s.pending := rfl

/-! ## modHealthRec -/

@[simp] theorem modHealthRec_resetHeld (s : State) (l : LaneNo) (f : HealthRec → HealthRec) :
    (s.modHealthRec l f).resetHeld = s.resetHeld := rfl
@[simp] theorem modHealthRec_timing (s : State) (l : LaneNo) (f : HealthRec → HealthRec) :
    (s.modHealthRec l f).timing = s.timing := rfl
@[simp] theorem modHealthRec_ports (s : State) (l : LaneNo) (f : HealthRec → HealthRec) :
    (s.modHealthRec l f).ports = s.ports := rfl
@[simp] theorem modHealthRec_xp (s : State) (l : LaneNo) (f : HealthRec → HealthRec) :
    (s.modHealthRec l f).xp = s.xp := rfl
@[simp] theorem modHealthRec_writer (s : State) (l : LaneNo) (f : HealthRec → HealthRec) :
    (s.modHealthRec l f).writer = s.writer := rfl
@[simp] theorem modHealthRec_mix (s : State) (l : LaneNo) (f : HealthRec → HealthRec) :
    (s.modHealthRec l f).mix = s.mix := rfl
@[simp] theorem modHealthRec_ducks (s : State) (l : LaneNo) (f : HealthRec → HealthRec) :
    (s.modHealthRec l f).ducks = s.ducks := rfl
@[simp] theorem modHealthRec_cancel (s : State) (l : LaneNo) (f : HealthRec → HealthRec) :
    (s.modHealthRec l f).cancel = s.cancel := rfl
@[simp] theorem modHealthRec_probe (s : State) (l : LaneNo) (f : HealthRec → HealthRec) :
    (s.modHealthRec l f).probe = s.probe := rfl
@[simp] theorem modHealthRec_lines (s : State) (l : LaneNo) (f : HealthRec → HealthRec) :
    (s.modHealthRec l f).lines = s.lines := rfl
@[simp] theorem modHealthRec_keyQueues (s : State) (l : LaneNo) (f : HealthRec → HealthRec) :
    (s.modHealthRec l f).keyQueues = s.keyQueues := rfl
@[simp] theorem modHealthRec_arbiter (s : State) (l : LaneNo) (f : HealthRec → HealthRec) :
    (s.modHealthRec l f).arbiter = s.arbiter := rfl
@[simp] theorem modHealthRec_stationId (s : State) (l : LaneNo) (f : HealthRec → HealthRec) :
    (s.modHealthRec l f).stationId = s.stationId := rfl
@[simp] theorem modHealthRec_lanes (s : State) (l : LaneNo) (f : HealthRec → HealthRec) :
    (s.modHealthRec l f).lanes = s.lanes := rfl
@[simp] theorem modHealthRec_buffers (s : State) (l : LaneNo) (f : HealthRec → HealthRec) :
    (s.modHealthRec l f).buffers = s.buffers := rfl
@[simp] theorem modHealthRec_units (s : State) (l : LaneNo) (f : HealthRec → HealthRec) :
    (s.modHealthRec l f).units = s.units := rfl
@[simp] theorem modHealthRec_control (s : State) (l : LaneNo) (f : HealthRec → HealthRec) :
    (s.modHealthRec l f).control = s.control := rfl
@[simp] theorem modHealthRec_reports (s : State) (l : LaneNo) (f : HealthRec → HealthRec) :
    (s.modHealthRec l f).reports = s.reports := rfl
@[simp] theorem modHealthRec_freeCount (s : State) (l : LaneNo) (f : HealthRec → HealthRec) :
    (s.modHealthRec l f).freeCount = s.freeCount := rfl
@[simp] theorem modHealthRec_pending (s : State) (l : LaneNo) (f : HealthRec → HealthRec) :
    (s.modHealthRec l f).pending = s.pending := rfl

/-! ## modProbe -/

@[simp] theorem modProbe_resetHeld (s : State) (f : Probe → Probe) :
    (s.modProbe f).resetHeld = s.resetHeld := rfl
@[simp] theorem modProbe_timing (s : State) (f : Probe → Probe) :
    (s.modProbe f).timing = s.timing := rfl
@[simp] theorem modProbe_ports (s : State) (f : Probe → Probe) :
    (s.modProbe f).ports = s.ports := rfl
@[simp] theorem modProbe_xp (s : State) (f : Probe → Probe) :
    (s.modProbe f).xp = s.xp := rfl
@[simp] theorem modProbe_writer (s : State) (f : Probe → Probe) :
    (s.modProbe f).writer = s.writer := rfl
@[simp] theorem modProbe_mix (s : State) (f : Probe → Probe) :
    (s.modProbe f).mix = s.mix := rfl
@[simp] theorem modProbe_ducks (s : State) (f : Probe → Probe) :
    (s.modProbe f).ducks = s.ducks := rfl
@[simp] theorem modProbe_cancel (s : State) (f : Probe → Probe) :
    (s.modProbe f).cancel = s.cancel := rfl
@[simp] theorem modProbe_probe (s : State) (f : Probe → Probe) :
    (s.modProbe f).probe = f s.probe := rfl
@[simp] theorem modProbe_lines (s : State) (f : Probe → Probe) :
    (s.modProbe f).lines = s.lines := rfl
@[simp] theorem modProbe_keyQueues (s : State) (f : Probe → Probe) :
    (s.modProbe f).keyQueues = s.keyQueues := rfl
@[simp] theorem modProbe_arbiter (s : State) (f : Probe → Probe) :
    (s.modProbe f).arbiter = s.arbiter := rfl
@[simp] theorem modProbe_stationId (s : State) (f : Probe → Probe) :
    (s.modProbe f).stationId = s.stationId := rfl
@[simp] theorem modProbe_lanes (s : State) (f : Probe → Probe) :
    (s.modProbe f).lanes = s.lanes := rfl
@[simp] theorem modProbe_buffers (s : State) (f : Probe → Probe) :
    (s.modProbe f).buffers = s.buffers := rfl
@[simp] theorem modProbe_health (s : State) (f : Probe → Probe) :
    (s.modProbe f).health = s.health := rfl
@[simp] theorem modProbe_units (s : State) (f : Probe → Probe) :
    (s.modProbe f).units = s.units := rfl
@[simp] theorem modProbe_control (s : State) (f : Probe → Probe) :
    (s.modProbe f).control = s.control := rfl
@[simp] theorem modProbe_reports (s : State) (f : Probe → Probe) :
    (s.modProbe f).reports = s.reports := rfl
@[simp] theorem modProbe_freeCount (s : State) (f : Probe → Probe) :
    (s.modProbe f).freeCount = s.freeCount := rfl
@[simp] theorem modProbe_pending (s : State) (f : Probe → Probe) :
    (s.modProbe f).pending = s.pending := rfl

/-! ## modWriter -/

@[simp] theorem modWriter_resetHeld (s : State) (f : Writer → Writer) :
    (s.modWriter f).resetHeld = s.resetHeld := rfl
@[simp] theorem modWriter_timing (s : State) (f : Writer → Writer) :
    (s.modWriter f).timing = s.timing := rfl
@[simp] theorem modWriter_ports (s : State) (f : Writer → Writer) :
    (s.modWriter f).ports = s.ports := rfl
@[simp] theorem modWriter_xp (s : State) (f : Writer → Writer) :
    (s.modWriter f).xp = s.xp := rfl
@[simp] theorem modWriter_writer (s : State) (f : Writer → Writer) :
    (s.modWriter f).writer = f s.writer := rfl
@[simp] theorem modWriter_mix (s : State) (f : Writer → Writer) :
    (s.modWriter f).mix = s.mix := rfl
@[simp] theorem modWriter_ducks (s : State) (f : Writer → Writer) :
    (s.modWriter f).ducks = s.ducks := rfl
@[simp] theorem modWriter_cancel (s : State) (f : Writer → Writer) :
    (s.modWriter f).cancel = s.cancel := rfl
@[simp] theorem modWriter_probe (s : State) (f : Writer → Writer) :
    (s.modWriter f).probe = s.probe := rfl
@[simp] theorem modWriter_lines (s : State) (f : Writer → Writer) :
    (s.modWriter f).lines = s.lines := rfl
@[simp] theorem modWriter_keyQueues (s : State) (f : Writer → Writer) :
    (s.modWriter f).keyQueues = s.keyQueues := rfl
@[simp] theorem modWriter_arbiter (s : State) (f : Writer → Writer) :
    (s.modWriter f).arbiter = s.arbiter := rfl
@[simp] theorem modWriter_stationId (s : State) (f : Writer → Writer) :
    (s.modWriter f).stationId = s.stationId := rfl
@[simp] theorem modWriter_lanes (s : State) (f : Writer → Writer) :
    (s.modWriter f).lanes = s.lanes := rfl
@[simp] theorem modWriter_buffers (s : State) (f : Writer → Writer) :
    (s.modWriter f).buffers = s.buffers := rfl
@[simp] theorem modWriter_health (s : State) (f : Writer → Writer) :
    (s.modWriter f).health = s.health := rfl
@[simp] theorem modWriter_units (s : State) (f : Writer → Writer) :
    (s.modWriter f).units = s.units := rfl
@[simp] theorem modWriter_control (s : State) (f : Writer → Writer) :
    (s.modWriter f).control = s.control := rfl
@[simp] theorem modWriter_reports (s : State) (f : Writer → Writer) :
    (s.modWriter f).reports = s.reports := rfl
@[simp] theorem modWriter_freeCount (s : State) (f : Writer → Writer) :
    (s.modWriter f).freeCount = s.freeCount := rfl
@[simp] theorem modWriter_pending (s : State) (f : Writer → Writer) :
    (s.modWriter f).pending = s.pending := rfl

/-! ## modControl -/

@[simp] theorem modControl_resetHeld (s : State) (f : Control → Control) :
    (s.modControl f).resetHeld = s.resetHeld := rfl
@[simp] theorem modControl_timing (s : State) (f : Control → Control) :
    (s.modControl f).timing = s.timing := rfl
@[simp] theorem modControl_ports (s : State) (f : Control → Control) :
    (s.modControl f).ports = s.ports := rfl
@[simp] theorem modControl_xp (s : State) (f : Control → Control) :
    (s.modControl f).xp = s.xp := rfl
@[simp] theorem modControl_writer (s : State) (f : Control → Control) :
    (s.modControl f).writer = s.writer := rfl
@[simp] theorem modControl_mix (s : State) (f : Control → Control) :
    (s.modControl f).mix = s.mix := rfl
@[simp] theorem modControl_ducks (s : State) (f : Control → Control) :
    (s.modControl f).ducks = s.ducks := rfl
@[simp] theorem modControl_cancel (s : State) (f : Control → Control) :
    (s.modControl f).cancel = s.cancel := rfl
@[simp] theorem modControl_probe (s : State) (f : Control → Control) :
    (s.modControl f).probe = s.probe := rfl
@[simp] theorem modControl_lines (s : State) (f : Control → Control) :
    (s.modControl f).lines = s.lines := rfl
@[simp] theorem modControl_keyQueues (s : State) (f : Control → Control) :
    (s.modControl f).keyQueues = s.keyQueues := rfl
@[simp] theorem modControl_arbiter (s : State) (f : Control → Control) :
    (s.modControl f).arbiter = s.arbiter := rfl
@[simp] theorem modControl_stationId (s : State) (f : Control → Control) :
    (s.modControl f).stationId = s.stationId := rfl
@[simp] theorem modControl_lanes (s : State) (f : Control → Control) :
    (s.modControl f).lanes = s.lanes := rfl
@[simp] theorem modControl_buffers (s : State) (f : Control → Control) :
    (s.modControl f).buffers = s.buffers := rfl
@[simp] theorem modControl_health (s : State) (f : Control → Control) :
    (s.modControl f).health = s.health := rfl
@[simp] theorem modControl_units (s : State) (f : Control → Control) :
    (s.modControl f).units = s.units := rfl
@[simp] theorem modControl_control (s : State) (f : Control → Control) :
    (s.modControl f).control = f s.control := rfl
@[simp] theorem modControl_reports (s : State) (f : Control → Control) :
    (s.modControl f).reports = s.reports := rfl
@[simp] theorem modControl_freeCount (s : State) (f : Control → Control) :
    (s.modControl f).freeCount = s.freeCount := rfl
@[simp] theorem modControl_pending (s : State) (f : Control → Control) :
    (s.modControl f).pending = s.pending := rfl

/-! ## modTiming -/

@[simp] theorem modTiming_resetHeld (s : State) (f : Timing → Timing) :
    (s.modTiming f).resetHeld = s.resetHeld := rfl
@[simp] theorem modTiming_timing (s : State) (f : Timing → Timing) :
    (s.modTiming f).timing = f s.timing := rfl
@[simp] theorem modTiming_ports (s : State) (f : Timing → Timing) :
    (s.modTiming f).ports = s.ports := rfl
@[simp] theorem modTiming_xp (s : State) (f : Timing → Timing) :
    (s.modTiming f).xp = s.xp := rfl
@[simp] theorem modTiming_writer (s : State) (f : Timing → Timing) :
    (s.modTiming f).writer = s.writer := rfl
@[simp] theorem modTiming_mix (s : State) (f : Timing → Timing) :
    (s.modTiming f).mix = s.mix := rfl
@[simp] theorem modTiming_ducks (s : State) (f : Timing → Timing) :
    (s.modTiming f).ducks = s.ducks := rfl
@[simp] theorem modTiming_cancel (s : State) (f : Timing → Timing) :
    (s.modTiming f).cancel = s.cancel := rfl
@[simp] theorem modTiming_probe (s : State) (f : Timing → Timing) :
    (s.modTiming f).probe = s.probe := rfl
@[simp] theorem modTiming_lines (s : State) (f : Timing → Timing) :
    (s.modTiming f).lines = s.lines := rfl
@[simp] theorem modTiming_keyQueues (s : State) (f : Timing → Timing) :
    (s.modTiming f).keyQueues = s.keyQueues := rfl
@[simp] theorem modTiming_arbiter (s : State) (f : Timing → Timing) :
    (s.modTiming f).arbiter = s.arbiter := rfl
@[simp] theorem modTiming_stationId (s : State) (f : Timing → Timing) :
    (s.modTiming f).stationId = s.stationId := rfl
@[simp] theorem modTiming_lanes (s : State) (f : Timing → Timing) :
    (s.modTiming f).lanes = s.lanes := rfl
@[simp] theorem modTiming_buffers (s : State) (f : Timing → Timing) :
    (s.modTiming f).buffers = s.buffers := rfl
@[simp] theorem modTiming_health (s : State) (f : Timing → Timing) :
    (s.modTiming f).health = s.health := rfl
@[simp] theorem modTiming_units (s : State) (f : Timing → Timing) :
    (s.modTiming f).units = s.units := rfl
@[simp] theorem modTiming_control (s : State) (f : Timing → Timing) :
    (s.modTiming f).control = s.control := rfl
@[simp] theorem modTiming_reports (s : State) (f : Timing → Timing) :
    (s.modTiming f).reports = s.reports := rfl
@[simp] theorem modTiming_freeCount (s : State) (f : Timing → Timing) :
    (s.modTiming f).freeCount = s.freeCount := rfl
@[simp] theorem modTiming_pending (s : State) (f : Timing → Timing) :
    (s.modTiming f).pending = s.pending := rfl

/-! ## submitHost -/

@[simp] theorem submitHost_resetHeld (s : State) (j : Purpose) (ops : List ClaimOp) :
    (s.submitHost j ops).resetHeld = s.resetHeld := rfl
@[simp] theorem submitHost_timing (s : State) (j : Purpose) (ops : List ClaimOp) :
    (s.submitHost j ops).timing = s.timing := rfl
@[simp] theorem submitHost_ports (s : State) (j : Purpose) (ops : List ClaimOp) :
    (s.submitHost j ops).ports = s.ports := rfl
@[simp] theorem submitHost_xp (s : State) (j : Purpose) (ops : List ClaimOp) :
    (s.submitHost j ops).xp = s.xp := rfl
@[simp] theorem submitHost_mix (s : State) (j : Purpose) (ops : List ClaimOp) :
    (s.submitHost j ops).mix = s.mix := rfl
@[simp] theorem submitHost_ducks (s : State) (j : Purpose) (ops : List ClaimOp) :
    (s.submitHost j ops).ducks = s.ducks := rfl
@[simp] theorem submitHost_cancel (s : State) (j : Purpose) (ops : List ClaimOp) :
    (s.submitHost j ops).cancel = s.cancel := rfl
@[simp] theorem submitHost_probe (s : State) (j : Purpose) (ops : List ClaimOp) :
    (s.submitHost j ops).probe = s.probe := rfl
@[simp] theorem submitHost_lines (s : State) (j : Purpose) (ops : List ClaimOp) :
    (s.submitHost j ops).lines = s.lines := rfl
@[simp] theorem submitHost_keyQueues (s : State) (j : Purpose) (ops : List ClaimOp) :
    (s.submitHost j ops).keyQueues = s.keyQueues := rfl
@[simp] theorem submitHost_arbiter (s : State) (j : Purpose) (ops : List ClaimOp) :
    (s.submitHost j ops).arbiter = s.arbiter := rfl
@[simp] theorem submitHost_stationId (s : State) (j : Purpose) (ops : List ClaimOp) :
    (s.submitHost j ops).stationId = s.stationId := rfl
@[simp] theorem submitHost_lanes (s : State) (j : Purpose) (ops : List ClaimOp) :
    (s.submitHost j ops).lanes = s.lanes := rfl
@[simp] theorem submitHost_buffers (s : State) (j : Purpose) (ops : List ClaimOp) :
    (s.submitHost j ops).buffers = s.buffers := rfl
@[simp] theorem submitHost_health (s : State) (j : Purpose) (ops : List ClaimOp) :
    (s.submitHost j ops).health = s.health := rfl
@[simp] theorem submitHost_units (s : State) (j : Purpose) (ops : List ClaimOp) :
    (s.submitHost j ops).units = s.units := rfl
@[simp] theorem submitHost_control (s : State) (j : Purpose) (ops : List ClaimOp) :
    (s.submitHost j ops).control = s.control := rfl
@[simp] theorem submitHost_reports (s : State) (j : Purpose) (ops : List ClaimOp) :
    (s.submitHost j ops).reports = s.reports := rfl
@[simp] theorem submitHost_freeCount (s : State) (j : Purpose) (ops : List ClaimOp) :
    (s.submitHost j ops).freeCount = s.freeCount := rfl
@[simp] theorem submitHost_pending (s : State) (j : Purpose) (ops : List ClaimOp) :
    (s.submitHost j ops).pending = s.pending := rfl

/-! ## submitTalk -/

@[simp] theorem submitTalk_resetHeld (s : State) (j : Purpose) (ops : List ClaimOp) :
    (s.submitTalk j ops).resetHeld = s.resetHeld := rfl
@[simp] theorem submitTalk_timing (s : State) (j : Purpose) (ops : List ClaimOp) :
    (s.submitTalk j ops).timing = s.timing := rfl
@[simp] theorem submitTalk_ports (s : State) (j : Purpose) (ops : List ClaimOp) :
    (s.submitTalk j ops).ports = s.ports := rfl
@[simp] theorem submitTalk_xp (s : State) (j : Purpose) (ops : List ClaimOp) :
    (s.submitTalk j ops).xp = s.xp := rfl
@[simp] theorem submitTalk_mix (s : State) (j : Purpose) (ops : List ClaimOp) :
    (s.submitTalk j ops).mix = s.mix := rfl
@[simp] theorem submitTalk_ducks (s : State) (j : Purpose) (ops : List ClaimOp) :
    (s.submitTalk j ops).ducks = s.ducks := rfl
@[simp] theorem submitTalk_cancel (s : State) (j : Purpose) (ops : List ClaimOp) :
    (s.submitTalk j ops).cancel = s.cancel := rfl
@[simp] theorem submitTalk_probe (s : State) (j : Purpose) (ops : List ClaimOp) :
    (s.submitTalk j ops).probe = s.probe := rfl
@[simp] theorem submitTalk_lines (s : State) (j : Purpose) (ops : List ClaimOp) :
    (s.submitTalk j ops).lines = s.lines := rfl
@[simp] theorem submitTalk_keyQueues (s : State) (j : Purpose) (ops : List ClaimOp) :
    (s.submitTalk j ops).keyQueues = s.keyQueues := rfl
@[simp] theorem submitTalk_arbiter (s : State) (j : Purpose) (ops : List ClaimOp) :
    (s.submitTalk j ops).arbiter = s.arbiter := rfl
@[simp] theorem submitTalk_stationId (s : State) (j : Purpose) (ops : List ClaimOp) :
    (s.submitTalk j ops).stationId = s.stationId := rfl
@[simp] theorem submitTalk_lanes (s : State) (j : Purpose) (ops : List ClaimOp) :
    (s.submitTalk j ops).lanes = s.lanes := rfl
@[simp] theorem submitTalk_buffers (s : State) (j : Purpose) (ops : List ClaimOp) :
    (s.submitTalk j ops).buffers = s.buffers := rfl
@[simp] theorem submitTalk_health (s : State) (j : Purpose) (ops : List ClaimOp) :
    (s.submitTalk j ops).health = s.health := rfl
@[simp] theorem submitTalk_units (s : State) (j : Purpose) (ops : List ClaimOp) :
    (s.submitTalk j ops).units = s.units := rfl
@[simp] theorem submitTalk_control (s : State) (j : Purpose) (ops : List ClaimOp) :
    (s.submitTalk j ops).control = s.control := rfl
@[simp] theorem submitTalk_reports (s : State) (j : Purpose) (ops : List ClaimOp) :
    (s.submitTalk j ops).reports = s.reports := rfl
@[simp] theorem submitTalk_freeCount (s : State) (j : Purpose) (ops : List ClaimOp) :
    (s.submitTalk j ops).freeCount = s.freeCount := rfl
@[simp] theorem submitTalk_pending (s : State) (j : Purpose) (ops : List ClaimOp) :
    (s.submitTalk j ops).pending = s.pending := rfl

/-! ## beginService -/

@[simp] theorem beginService_resetHeld (s : State) (tag kind : Byte) (c : Bool) :
    (s.beginService tag kind c).resetHeld = s.resetHeld := rfl
@[simp] theorem beginService_timing (s : State) (tag kind : Byte) (c : Bool) :
    (s.beginService tag kind c).timing = s.timing := rfl
@[simp] theorem beginService_ports (s : State) (tag kind : Byte) (c : Bool) :
    (s.beginService tag kind c).ports = s.ports := rfl
@[simp] theorem beginService_xp (s : State) (tag kind : Byte) (c : Bool) :
    (s.beginService tag kind c).xp = s.xp := rfl
@[simp] theorem beginService_writer (s : State) (tag kind : Byte) (c : Bool) :
    (s.beginService tag kind c).writer = s.writer := rfl
@[simp] theorem beginService_mix (s : State) (tag kind : Byte) (c : Bool) :
    (s.beginService tag kind c).mix = s.mix := rfl
@[simp] theorem beginService_ducks (s : State) (tag kind : Byte) (c : Bool) :
    (s.beginService tag kind c).ducks = s.ducks := rfl
@[simp] theorem beginService_cancel (s : State) (tag kind : Byte) (c : Bool) :
    (s.beginService tag kind c).cancel = s.cancel := rfl
@[simp] theorem beginService_probe (s : State) (tag kind : Byte) (c : Bool) :
    (s.beginService tag kind c).probe = s.probe := rfl
@[simp] theorem beginService_lines (s : State) (tag kind : Byte) (c : Bool) :
    (s.beginService tag kind c).lines = s.lines := rfl
@[simp] theorem beginService_keyQueues (s : State) (tag kind : Byte) (c : Bool) :
    (s.beginService tag kind c).keyQueues = s.keyQueues := rfl
@[simp] theorem beginService_arbiter (s : State) (tag kind : Byte) (c : Bool) :
    (s.beginService tag kind c).arbiter = s.arbiter := rfl
@[simp] theorem beginService_stationId (s : State) (tag kind : Byte) (c : Bool) :
    (s.beginService tag kind c).stationId = s.stationId := rfl
@[simp] theorem beginService_lanes (s : State) (tag kind : Byte) (c : Bool) :
    (s.beginService tag kind c).lanes = s.lanes := rfl
@[simp] theorem beginService_buffers (s : State) (tag kind : Byte) (c : Bool) :
    (s.beginService tag kind c).buffers = s.buffers := rfl
@[simp] theorem beginService_health (s : State) (tag kind : Byte) (c : Bool) :
    (s.beginService tag kind c).health = s.health := rfl
@[simp] theorem beginService_units (s : State) (tag kind : Byte) (c : Bool) :
    (s.beginService tag kind c).units = s.units := rfl
@[simp] theorem beginService_reports (s : State) (tag kind : Byte) (c : Bool) :
    (s.beginService tag kind c).reports = s.reports := rfl
@[simp] theorem beginService_freeCount (s : State) (tag kind : Byte) (c : Bool) :
    (s.beginService tag kind c).freeCount = s.freeCount := rfl
@[simp] theorem beginService_pending (s : State) (tag kind : Byte) (c : Bool) :
    (s.beginService tag kind c).pending = s.pending := rfl

/-! ## useFree -/

@[simp] theorem useFree_resetHeld (s : State) :
    s.useFree.resetHeld = s.resetHeld := rfl
@[simp] theorem useFree_timing (s : State) :
    s.useFree.timing = s.timing := rfl
@[simp] theorem useFree_ports (s : State) :
    s.useFree.ports = s.ports := rfl
@[simp] theorem useFree_xp (s : State) :
    s.useFree.xp = s.xp := rfl
@[simp] theorem useFree_writer (s : State) :
    s.useFree.writer = s.writer := rfl
@[simp] theorem useFree_mix (s : State) :
    s.useFree.mix = s.mix := rfl
@[simp] theorem useFree_ducks (s : State) :
    s.useFree.ducks = s.ducks := rfl
@[simp] theorem useFree_cancel (s : State) :
    s.useFree.cancel = s.cancel := rfl
@[simp] theorem useFree_probe (s : State) :
    s.useFree.probe = s.probe := rfl
@[simp] theorem useFree_lines (s : State) :
    s.useFree.lines = s.lines := rfl
@[simp] theorem useFree_keyQueues (s : State) :
    s.useFree.keyQueues = s.keyQueues := rfl
@[simp] theorem useFree_arbiter (s : State) :
    s.useFree.arbiter = s.arbiter := rfl
@[simp] theorem useFree_stationId (s : State) :
    s.useFree.stationId = s.stationId := rfl
@[simp] theorem useFree_lanes (s : State) :
    s.useFree.lanes = s.lanes := rfl
@[simp] theorem useFree_buffers (s : State) :
    s.useFree.buffers = s.buffers := rfl
@[simp] theorem useFree_health (s : State) :
    s.useFree.health = s.health := rfl
@[simp] theorem useFree_units (s : State) :
    s.useFree.units = s.units := rfl
@[simp] theorem useFree_control (s : State) :
    s.useFree.control = s.control := rfl
@[simp] theorem useFree_reports (s : State) :
    s.useFree.reports = s.reports := rfl
@[simp] theorem useFree_freeCount (s : State) :
    s.useFree.freeCount = s.freeCount + 1 := rfl
@[simp] theorem useFree_pending (s : State) :
    s.useFree.pending = s.pending := rfl

end Sys2Proof.Machine.State
end

