-- ==== Sys2Proof/Laws/Table.lean ====
section
/-! SUPPORT. What reading a table gives after a change of it, and the same of each kind of record of the
state. -/

namespace Sys2Proof

namespace Table

variable {n : Nat} {α β : Type}

theorem get_eq (t : Table n α) (i : Fin n) :
    t.get i = t.cells[i.val]'(by rw [t.size_eq]; exact i.isLt) := rfl

@[simp] theorem get_set_same (t : Table n α) (i : Fin n) (x : α) : (t.set i x).get i = x := by
  simp [get_eq, set]

theorem get_set_ne (t : Table n α) {i j : Fin n} (x : α) (h : j ≠ i) :
    (t.set i x).get j = t.get j := by
  have h' : i.val ≠ j.val := fun e => h (Fin.ext e.symm)
  simp [get_eq, set, h']

theorem get_set (t : Table n α) (i j : Fin n) (x : α) :
    (t.set i x).get j = if j = i then x else t.get j := by
  by_cases h : j = i
  · subst h; simp
  · simp [h, get_set_ne]

@[simp] theorem get_replicate (x : α) (i : Fin n) : (replicate n x).get i = x := by
  simp [get_eq, replicate]

@[simp] theorem get_tabulate (f : Fin n → α) (i : Fin n) : (tabulate f).get i = f i := by
  simp [get_eq, tabulate]

@[simp] theorem get_map (f : α → β) (t : Table n α) (i : Fin n) :
    (t.map f).get i = f (t.get i) := by
  simp [get_eq, map]

theorem ext_get {t u : Table n α} (h : ∀ i, t.get i = u.get i) : t = u := by
  obtain ⟨ts, ht⟩ := t
  obtain ⟨us, hu⟩ := u
  simp only [mk.injEq]
  apply List.ext_getElem (ht.trans hu.symm)
  intro k hk _
  exact h ⟨k, ht ▸ hk⟩

end Table

namespace Machine.State

variable (s : State)

theorem port_modPort (p q : PortNo) (f : Port → Port) :
    (s.modPort p f).port q = if q = p then f (s.port p) else s.port q := by
  simp [port, Table.get_set]

theorem into_setInto (d e : PortNo) (es : List Entry) :
    (s.setInto d es).into e = if e = d then es else s.into e := by
  simp [into, Table.get_set]

theorem slot_modSlot (k j : SlotNo) (f : CancelSlot → CancelSlot) :
    (s.modSlot k f).slot j = if j = k then f (s.slot k) else s.slot j := by
  simp [slot, Table.get_set]

theorem line_modLine (l m : LineNo) (f : PanelLine → PanelLine) :
    (s.modLine l f).line m = if m = l then f (s.line l) else s.line m := by
  simp [line, Table.get_set]

theorem keyQueue_modKeyQueue (l m : LineNo) (f : KeyQueue → KeyQueue) :
    (s.modKeyQueue l f).keyQueue m = if m = l then f (s.keyQueue l) else s.keyQueue m := by
  simp [keyQueue, Table.get_set]

theorem lane_modLane (l m : LaneNo) (f : Lane → Lane) :
    (s.modLane l f).lane m = if m = l then f (s.lane l) else s.lane m := by
  simp [lane, Table.get_set]

theorem buffer_modBuffer (b c : BufNo) (f : PathBuf → PathBuf) :
    (s.modBuffer b f).buffer c = if c = b then f (s.buffer b) else s.buffer c := by
  simp [buffer, Table.get_set]

theorem healthRec_modHealthRec (l m : LaneNo) (f : HealthRec → HealthRec) :
    (s.modHealthRec l f).healthRec m = if m = l then f (s.healthRec l) else s.healthRec m := by
  simp [healthRec, modHealthRec, Table.get_set]

theorem panel_modPanel (l m : LineNo) (a b : PanelAddr) (f : PanelRec → PanelRec) :
    (s.modPanel l a f).panel m b = if m = l ∧ b = a then f (s.panel l a) else s.panel m b := by
  by_cases hm : m = l <;> by_cases hb : b = a <;>
    simp [panel, modPanel, line_modLine, Table.get_set, hm, hb]

theorem key_modKey (k j : KeyId) (f : KeyCell → KeyCell) :
    (s.modKey k f).key j = if j = k then f (s.key k) else s.key j := by
  obtain ⟨l, a, n⟩ := k
  obtain ⟨m, b, i⟩ := j
  by_cases hl : m = l <;> by_cases ha : b = a <;> by_cases hn : i = n <;>
    simp [key, modKey, modArbiter, Table.get_set, hl, ha, hn]

end Machine.State

end Sys2Proof
end

