-- ==== Sys2Proof/Laws/Ops.lean ====
section
/-! SUPPORT. What the shared operations of the control line can do: starting the transmitter, queueing a
report, forming a reply, and the two guards every command runs under. -/

namespace Sys2Proof.Machine

namespace State

/-! ## What they leave -/

theorem startTransmitter_frame (s : State) :
    s.startTransmitter = { s with
      control := { s.control with
        replies := s.startTransmitter.control.replies, tx := s.startTransmitter.control.tx }
      reports := { s.reports with queue := s.startTransmitter.reports.queue } } := by
  unfold startTransmitter
  split
  · rfl
  · split <;> rfl

theorem report_frame (s : State) (r : Report) :
    s.report r = { s with
      control := { s.control with
        replies := (s.report r).control.replies, tx := (s.report r).control.tx }
      reports := (s.report r).reports } := by
  unfold report startTransmitter
  split
  · rfl
  · split <;> rfl

theorem reply_frame (s : State) (tag kind : Byte) (code : ResultCode) (fields : ReplyFields) :
    s.reply tag kind code fields = { s with
      control := { s.control with
        replies := (s.reply tag kind code fields).control.replies
        tx := (s.reply tag kind code fields).control.tx }
      reports := { s.reports with queue := (s.reply tag kind code fields).reports.queue } } := by
  unfold reply startTransmitter
  split
  · rfl
  · split <;> rfl

/-! ## What they send -/

theorem startTransmitter_unsentReplies (s : State) :
    s.startTransmitter.unsentReplies = s.unsentReplies := by
  unfold startTransmitter
  split
  · rfl
  · rename_i h
    have htx : s.control.tx = none := by
      cases hx : s.control.tx <;> simp_all
    split <;> simp_all [unsentReplies]

theorem startTransmitter_unsentReports (s : State) :
    s.startTransmitter.unsentReports = s.unsentReports := by
  unfold startTransmitter
  split
  · rfl
  · rename_i h
    have htx : s.control.tx = none := by
      cases hx : s.control.tx <;> simp_all
    split <;> simp_all [unsentReports]

theorem startTransmitter_dropped (s : State) :
    s.startTransmitter.reports.dropped = s.reports.dropped := by
  unfold startTransmitter
  split
  · rfl
  · split <;> rfl

theorem startTransmitter_queue_length (s : State) :
    s.startTransmitter.reports.queue.length ≤ s.reports.queue.length := by
  unfold startTransmitter
  split
  · exact le_rfl
  · split <;> rename_i heq <;> simp_all

theorem reply_unsentReplies (s : State) (tag kind : Byte) (code : ResultCode)
    (fields : ReplyFields) :
    (s.reply tag kind code fields).unsentReplies =
      s.unsentReplies ++ [⟨tag, kind, code, fields⟩] := by
  rw [reply, startTransmitter_unsentReplies]
  simp only [unsentReplies, List.append_assoc]

theorem reply_unsentReports (s : State) (tag kind : Byte) (code : ResultCode)
    (fields : ReplyFields) :
    (s.reply tag kind code fields).unsentReports = s.unsentReports := by
  rw [reply, startTransmitter_unsentReports]
  rfl

theorem report_unsentReplies (s : State) (r : Report) :
    (s.report r).unsentReplies = s.unsentReplies := by
  rw [report, startTransmitter_unsentReplies]
  rfl

theorem report_unsentReports (s : State) (r : Report) :
    (s.report r).unsentReports =
      if s.reports.queue.length < 64 then s.unsentReports ++ [⟨r, s.reports.dropped⟩]
      else s.unsentReports := by
  rw [report, startTransmitter_unsentReports]
  by_cases h : s.reports.queue.length < 64 <;>
    simp only [unsentReports, ReportQueue.offer, h, if_true, if_false, List.append_assoc]

/-- A report leaves the dropped count 0, or one more at most 255 (R181). -/
theorem report_dropped (s : State) (r : Report) :
    (s.report r).reports.dropped =
      if s.reports.queue.length < 64 then 0 else min 255 (s.reports.dropped + 1) := by
  rw [report, startTransmitter_dropped]
  by_cases h : s.reports.queue.length < 64 <;> simp [ReportQueue.offer, h, addSat]

/-- The queue never grows past 64 reports (R181). -/
theorem report_bounded (s : State) (r : Report) (h : s.ReportsBounded) :
    (s.report r).ReportsBounded := by
  refine le_trans (startTransmitter_queue_length _) ?_
  unfold ReportsBounded at h
  by_cases hq : s.reports.queue.length < 64
  · simp [ReportQueue.offer, hq]
  · simpa [ReportQueue.offer, hq] using h

/-- A reply leaves the Report Queue alone: the transmitter, if free, begins a reply. -/
@[simp] theorem reply_reports (s : State) (tag kind : Byte) (code : ResultCode)
    (fields : ReplyFields) : (s.reply tag kind code fields).reports = s.reports := by
  unfold reply startTransmitter
  split
  · rfl
  · split <;> first | rfl | simp_all

/-- A command's reply formed, and nothing else sent. -/
theorem reply_answers (s : State) (tag kind : Byte) (code : ResultCode) (fields : ReplyFields) :
    s.Answers (s.reply tag kind code fields) tag kind code fields :=
  ⟨reply_unsentReplies .., reply_unsentReports .., by simp⟩

/-- A report offered, and nothing else sent. -/
theorem report_offers (s : State) (r : Report) : s.Offers (s.report r) r := by
  refine ⟨by rw [FormsReplies, report_unsentReplies, List.append_nil], ?_⟩
  unfold QueuesReport
  rw [report_unsentReports, report_dropped]
  split <;> exact ⟨rfl, rfl⟩

theorem reply_isBut (s : State) (tag kind : Byte) (code : ResultCode) (fields : ReplyFields) :
    s.IsBut (s.reply tag kind code fields) := by
  unfold IsBut
  conv => lhs; rw [reply_frame]
  rw [reply_reports]

theorem report_isBut (s : State) (r : Report) : s.IsBut (s.report r) := report_frame s r

/-! ## The fields they leave, for `simp` -/

@[simp] theorem report_resetHeld (s : State) (r : Report) :
    (s.report r).resetHeld = s.resetHeld := by rw [report_frame]
@[simp] theorem report_timing (s : State) (r : Report) :
    (s.report r).timing = s.timing := by rw [report_frame]
@[simp] theorem report_ports (s : State) (r : Report) :
    (s.report r).ports = s.ports := by rw [report_frame]
@[simp] theorem report_xp (s : State) (r : Report) :
    (s.report r).xp = s.xp := by rw [report_frame]
@[simp] theorem report_writer (s : State) (r : Report) :
    (s.report r).writer = s.writer := by rw [report_frame]
@[simp] theorem report_mix (s : State) (r : Report) :
    (s.report r).mix = s.mix := by rw [report_frame]
@[simp] theorem report_ducks (s : State) (r : Report) :
    (s.report r).ducks = s.ducks := by rw [report_frame]
@[simp] theorem report_cancel (s : State) (r : Report) :
    (s.report r).cancel = s.cancel := by rw [report_frame]
@[simp] theorem report_probe (s : State) (r : Report) :
    (s.report r).probe = s.probe := by rw [report_frame]
@[simp] theorem report_lines (s : State) (r : Report) :
    (s.report r).lines = s.lines := by rw [report_frame]
@[simp] theorem report_keyQueues (s : State) (r : Report) :
    (s.report r).keyQueues = s.keyQueues := by rw [report_frame]
@[simp] theorem report_arbiter (s : State) (r : Report) :
    (s.report r).arbiter = s.arbiter := by rw [report_frame]
@[simp] theorem report_stationId (s : State) (r : Report) :
    (s.report r).stationId = s.stationId := by rw [report_frame]
@[simp] theorem report_lanes (s : State) (r : Report) :
    (s.report r).lanes = s.lanes := by rw [report_frame]
@[simp] theorem report_buffers (s : State) (r : Report) :
    (s.report r).buffers = s.buffers := by rw [report_frame]
@[simp] theorem report_health (s : State) (r : Report) :
    (s.report r).health = s.health := by rw [report_frame]
@[simp] theorem report_units (s : State) (r : Report) :
    (s.report r).units = s.units := by rw [report_frame]
@[simp] theorem report_freeCount (s : State) (r : Report) :
    (s.report r).freeCount = s.freeCount := by rw [report_frame]
@[simp] theorem report_pending (s : State) (r : Report) :
    (s.report r).pending = s.pending := by rw [report_frame]
@[simp] theorem reply_resetHeld (s : State) (tag kind : Byte) (code : ResultCode) (fields : ReplyFields) :
    (s.reply tag kind code fields).resetHeld = s.resetHeld := by rw [reply_frame]
@[simp] theorem reply_timing (s : State) (tag kind : Byte) (code : ResultCode) (fields : ReplyFields) :
    (s.reply tag kind code fields).timing = s.timing := by rw [reply_frame]
@[simp] theorem reply_ports (s : State) (tag kind : Byte) (code : ResultCode) (fields : ReplyFields) :
    (s.reply tag kind code fields).ports = s.ports := by rw [reply_frame]
@[simp] theorem reply_xp (s : State) (tag kind : Byte) (code : ResultCode) (fields : ReplyFields) :
    (s.reply tag kind code fields).xp = s.xp := by rw [reply_frame]
@[simp] theorem reply_writer (s : State) (tag kind : Byte) (code : ResultCode) (fields : ReplyFields) :
    (s.reply tag kind code fields).writer = s.writer := by rw [reply_frame]
@[simp] theorem reply_mix (s : State) (tag kind : Byte) (code : ResultCode) (fields : ReplyFields) :
    (s.reply tag kind code fields).mix = s.mix := by rw [reply_frame]
@[simp] theorem reply_ducks (s : State) (tag kind : Byte) (code : ResultCode) (fields : ReplyFields) :
    (s.reply tag kind code fields).ducks = s.ducks := by rw [reply_frame]
@[simp] theorem reply_cancel (s : State) (tag kind : Byte) (code : ResultCode) (fields : ReplyFields) :
    (s.reply tag kind code fields).cancel = s.cancel := by rw [reply_frame]
@[simp] theorem reply_probe (s : State) (tag kind : Byte) (code : ResultCode) (fields : ReplyFields) :
    (s.reply tag kind code fields).probe = s.probe := by rw [reply_frame]
@[simp] theorem reply_lines (s : State) (tag kind : Byte) (code : ResultCode) (fields : ReplyFields) :
    (s.reply tag kind code fields).lines = s.lines := by rw [reply_frame]
@[simp] theorem reply_keyQueues (s : State) (tag kind : Byte) (code : ResultCode) (fields : ReplyFields) :
    (s.reply tag kind code fields).keyQueues = s.keyQueues := by rw [reply_frame]
@[simp] theorem reply_arbiter (s : State) (tag kind : Byte) (code : ResultCode) (fields : ReplyFields) :
    (s.reply tag kind code fields).arbiter = s.arbiter := by rw [reply_frame]
@[simp] theorem reply_stationId (s : State) (tag kind : Byte) (code : ResultCode) (fields : ReplyFields) :
    (s.reply tag kind code fields).stationId = s.stationId := by rw [reply_frame]
@[simp] theorem reply_lanes (s : State) (tag kind : Byte) (code : ResultCode) (fields : ReplyFields) :
    (s.reply tag kind code fields).lanes = s.lanes := by rw [reply_frame]
@[simp] theorem reply_buffers (s : State) (tag kind : Byte) (code : ResultCode) (fields : ReplyFields) :
    (s.reply tag kind code fields).buffers = s.buffers := by rw [reply_frame]
@[simp] theorem reply_health (s : State) (tag kind : Byte) (code : ResultCode) (fields : ReplyFields) :
    (s.reply tag kind code fields).health = s.health := by rw [reply_frame]
@[simp] theorem reply_units (s : State) (tag kind : Byte) (code : ResultCode) (fields : ReplyFields) :
    (s.reply tag kind code fields).units = s.units := by rw [reply_frame]
@[simp] theorem reply_freeCount (s : State) (tag kind : Byte) (code : ResultCode) (fields : ReplyFields) :
    (s.reply tag kind code fields).freeCount = s.freeCount := by rw [reply_frame]
@[simp] theorem reply_pending (s : State) (tag kind : Byte) (code : ResultCode) (fields : ReplyFields) :
    (s.reply tag kind code fields).pending = s.pending := by rw [reply_frame]
@[simp] theorem startTransmitter_resetHeld (s : State) :
    s.startTransmitter.resetHeld = s.resetHeld := by rw [startTransmitter_frame]
@[simp] theorem startTransmitter_timing (s : State) :
    s.startTransmitter.timing = s.timing := by rw [startTransmitter_frame]
@[simp] theorem startTransmitter_ports (s : State) :
    s.startTransmitter.ports = s.ports := by rw [startTransmitter_frame]
@[simp] theorem startTransmitter_xp (s : State) :
    s.startTransmitter.xp = s.xp := by rw [startTransmitter_frame]
@[simp] theorem startTransmitter_writer (s : State) :
    s.startTransmitter.writer = s.writer := by rw [startTransmitter_frame]
@[simp] theorem startTransmitter_mix (s : State) :
    s.startTransmitter.mix = s.mix := by rw [startTransmitter_frame]
@[simp] theorem startTransmitter_ducks (s : State) :
    s.startTransmitter.ducks = s.ducks := by rw [startTransmitter_frame]
@[simp] theorem startTransmitter_cancel (s : State) :
    s.startTransmitter.cancel = s.cancel := by rw [startTransmitter_frame]
@[simp] theorem startTransmitter_probe (s : State) :
    s.startTransmitter.probe = s.probe := by rw [startTransmitter_frame]
@[simp] theorem startTransmitter_lines (s : State) :
    s.startTransmitter.lines = s.lines := by rw [startTransmitter_frame]
@[simp] theorem startTransmitter_keyQueues (s : State) :
    s.startTransmitter.keyQueues = s.keyQueues := by rw [startTransmitter_frame]
@[simp] theorem startTransmitter_arbiter (s : State) :
    s.startTransmitter.arbiter = s.arbiter := by rw [startTransmitter_frame]
@[simp] theorem startTransmitter_stationId (s : State) :
    s.startTransmitter.stationId = s.stationId := by rw [startTransmitter_frame]
@[simp] theorem startTransmitter_lanes (s : State) :
    s.startTransmitter.lanes = s.lanes := by rw [startTransmitter_frame]
@[simp] theorem startTransmitter_buffers (s : State) :
    s.startTransmitter.buffers = s.buffers := by rw [startTransmitter_frame]
@[simp] theorem startTransmitter_health (s : State) :
    s.startTransmitter.health = s.health := by rw [startTransmitter_frame]
@[simp] theorem startTransmitter_units (s : State) :
    s.startTransmitter.units = s.units := by rw [startTransmitter_frame]
@[simp] theorem startTransmitter_freeCount (s : State) :
    s.startTransmitter.freeCount = s.freeCount := by rw [startTransmitter_frame]
@[simp] theorem startTransmitter_pending (s : State) :
    s.startTransmitter.pending = s.pending := by rw [startTransmitter_frame]

end State

/-! ## The guards -/

/-- An event always has a next state: the same one while the reset line is held. -/
theorem onEvent_eq (s : State) (f : State → State) (h : s.resetHeld = false) :
    onEvent s f = .next (f s) := by simp [onEvent, h]

theorem onEvent_held (s : State) (f : State → State) (h : s.resetHeld = true) :
    onEvent s f = .next s := by simp [onEvent, h]

theorem onCommand_eq (s : State) (f : State → State) (h : s.takesCommand = true) :
    onCommand s f = .next (f s) := by simp [onCommand, h]

theorem onCommand_waits (s : State) (f : State → State) (h : s.takesCommand = false) :
    onCommand s f = .next s := by simp [onCommand, h]

end Sys2Proof.Machine
end

