-- ==== Sys2Proof/Laws/Wire.lean ====
section
/-! SUPPORT. Multi-byte fields read back, and the command each kind of frame carries (R178, 11 section
11.6). -/

namespace Sys2Proof.Machine

theorem fieldBytes_two {w : Nat} (v : BitVec w) :
    fieldBytes 2 v = [BitVec.ofNat 8 (v.toNat / 256), v.setWidth 8] := by
  simp [fieldBytes, List.range_succ]

theorem fieldBytes_three {w : Nat} (v : BitVec w) :
    fieldBytes 3 v =
      [BitVec.ofNat 8 (v.toNat / 65536), BitVec.ofNat 8 (v.toNat / 256),
        v.setWidth 8] := by
  simp [fieldBytes, List.range_succ]

theorem fieldBytes_five {w : Nat} (v : BitVec w) :
    fieldBytes 5 v =
      [BitVec.ofNat 8 (v.toNat / 4294967296), BitVec.ofNat 8 (v.toNat / 16777216),
        BitVec.ofNat 8 (v.toNat / 65536), BitVec.ofNat 8 (v.toNat / 256),
        v.setWidth 8] := by
  simp [fieldBytes, List.range_succ]

/-- A field of at most 16 bits is read back from its two bytes. -/
theorem field_two {w : Nat} (v : BitVec w) (h : w ≤ 16) :
    field w [BitVec.ofNat 8 (v.toNat / 256), v.setWidth 8] = v := by
  have hv : v.toNat < 2 ^ 16 := lt_of_lt_of_le v.isLt (Nat.pow_le_pow_right (by omega) h)
  apply BitVec.eq_of_toNat_eq
  simp only [field, bytesToNat, List.foldl, BitVec.toNat_ofNat, BitVec.toNat_setWidth]
  rw [show (0 * 256 + v.toNat / 256 % 2 ^ 8) * 256 + v.toNat % 2 ^ 8 = v.toNat by omega]
  exact Nat.mod_eq_of_lt v.isLt

/-- A field of at most 24 bits is read back from its three bytes. -/
theorem field_three {w : Nat} (v : BitVec w) (h : w ≤ 24) :
    field w [BitVec.ofNat 8 (v.toNat / 65536), BitVec.ofNat 8 (v.toNat / 256),
      v.setWidth 8] = v := by
  have hv : v.toNat < 2 ^ 24 := lt_of_lt_of_le v.isLt (Nat.pow_le_pow_right (by omega) h)
  apply BitVec.eq_of_toNat_eq
  simp only [field, bytesToNat, List.foldl, BitVec.toNat_ofNat, BitVec.toNat_setWidth]
  rw [show ((0 * 256 + v.toNat / 65536 % 2 ^ 8) * 256 + v.toNat / 256 % 2 ^ 8) * 256 +
    v.toNat % 2 ^ 8 = v.toNat by omega]
  exact Nat.mod_eq_of_lt v.isLt

/-- A field of at most 40 bits is read back from its five bytes. -/
theorem field_five {w : Nat} (v : BitVec w) (h : w ≤ 40) :
    field w [BitVec.ofNat 8 (v.toNat / 4294967296), BitVec.ofNat 8 (v.toNat / 16777216),
      BitVec.ofNat 8 (v.toNat / 65536), BitVec.ofNat 8 (v.toNat / 256),
      v.setWidth 8] = v := by
  have hv : v.toNat < 2 ^ 40 := lt_of_lt_of_le v.isLt (Nat.pow_le_pow_right (by omega) h)
  apply BitVec.eq_of_toNat_eq
  simp only [field, bytesToNat, List.foldl, BitVec.toNat_ofNat, BitVec.toNat_setWidth]
  rw [show ((((0 * 256 + v.toNat / 4294967296 % 2 ^ 8) * 256 + v.toNat / 16777216 % 2 ^ 8) * 256 +
    v.toNat / 65536 % 2 ^ 8) * 256 + v.toNat / 256 % 2 ^ 8) * 256 + v.toNat % 2 ^ 8 = v.toNat by
      omega]
  exact Nat.mod_eq_of_lt v.isLt

/-! ## The command a frame carries, kind by kind (R178) -/

@[simp] theorem judgeFrame_identify (tag : Byte) :
    judgeFrame ⟨Kind.identify, tag, []⟩ =
      .command (.identify tag) := rfl

@[simp] theorem judgeFrame_restart (tag : Byte) :
    judgeFrame ⟨Kind.restart, tag, []⟩ =
      .command (.restart tag) := rfl

@[simp] theorem judgeFrame_stationIdSet (tag : Byte) (i4 i3 i2 i1 i0 : Byte) :
    judgeFrame ⟨Kind.stationIdSet, tag, [i4, i3, i2, i1, i0]⟩ =
      .command (.stationIdSet tag (field 40 [i4, i3, i2, i1, i0])) := rfl

@[simp] theorem judgeFrame_lineGet (tag : Byte) :
    judgeFrame ⟨Kind.lineGet, tag, []⟩ =
      .command (.lineGet tag) := rfl

@[simp] theorem judgeFrame_clockSet (tag : Byte) (body : List Byte) :
    judgeFrame ⟨Kind.clockSet, tag, body⟩ =
      judgeClockSet tag body := rfl

@[simp] theorem judgeFrame_clockGet (tag : Byte) :
    judgeFrame ⟨Kind.clockGet, tag, []⟩ =
      .command (.clockGet tag) := rfl

@[simp] theorem judgeFrame_portSet (tag : Byte) (body : List Byte) :
    judgeFrame ⟨Kind.portSet, tag, body⟩ =
      judgePortSet tag body := rfl

@[simp] theorem judgeFrame_portGet (tag : Byte) (port : Byte) :
    judgeFrame ⟨Kind.portGet, tag, [port]⟩ =
      .command (.portGet tag port) := rfl

@[simp] theorem judgeFrame_xpSet (tag : Byte) (src dst l1 l0 cls : Byte) :
    judgeFrame ⟨Kind.xpSet, tag, [src, dst, l1, l0, cls]⟩ =
      .command (.xpSet tag src dst (field 16 [l1, l0]) cls) := rfl

@[simp] theorem judgeFrame_xpClear (tag : Byte) (src dst : Byte) :
    judgeFrame ⟨Kind.xpClear, tag, [src, dst]⟩ =
      .command (.xpClear tag src dst) := rfl

@[simp] theorem judgeFrame_xpList (tag : Byte) (dst start : Byte) :
    judgeFrame ⟨Kind.xpList, tag, [dst, start]⟩ =
      .command (.xpList tag dst start) := rfl

@[simp] theorem judgeFrame_sceneBegin (tag : Byte) :
    judgeFrame ⟨Kind.sceneBegin, tag, []⟩ =
      .command (.sceneBegin tag) := rfl

@[simp] theorem judgeFrame_sceneEntry (tag : Byte) (src dst l1 l0 cls : Byte) :
    judgeFrame ⟨Kind.sceneEntry, tag, [src, dst, l1, l0, cls]⟩ =
      .command (.sceneEntry tag src dst (field 16 [l1, l0]) cls) := rfl

@[simp] theorem judgeFrame_sceneCommit (tag : Byte) :
    judgeFrame ⟨Kind.sceneCommit, tag, []⟩ =
      .command (.sceneCommit tag) := rfl

@[simp] theorem judgeFrame_sceneAbandon (tag : Byte) :
    judgeFrame ⟨Kind.sceneAbandon, tag, []⟩ =
      .command (.sceneAbandon tag) := rfl

@[simp] theorem judgeFrame_groupSet (tag : Byte) (body : List Byte) :
    judgeFrame ⟨Kind.groupSet, tag, body⟩ =
      judgeGroupSet tag body := rfl

@[simp] theorem judgeFrame_groupGet (tag : Byte) (group : Byte) :
    judgeFrame ⟨Kind.groupGet, tag, [group]⟩ =
      .command (.groupGet tag group) := rfl

@[simp] theorem judgeFrame_keyGet (tag : Byte) (line addr key : Byte) :
    judgeFrame ⟨Kind.keyGet, tag, [line, addr, key]⟩ =
      .command (.keyGet tag line addr key) := rfl

@[simp] theorem judgeFrame_filterSet (tag : Byte) (body : List Byte) :
    judgeFrame ⟨Kind.filterSet, tag, body⟩ =
      judgeFilterSet tag body := rfl

@[simp] theorem judgeFrame_pollSet (tag : Byte) (line m1 m0 : Byte) :
    judgeFrame ⟨Kind.pollSet, tag, [line, m1, m0]⟩ =
      .command (.pollSet tag line (field 16 [m1, m0])) := rfl

@[simp] theorem judgeFrame_panelGet (tag : Byte) (line addr : Byte) :
    judgeFrame ⟨Kind.panelGet, tag, [line, addr]⟩ =
      .command (.panelGet tag line addr) := rfl

@[simp] theorem judgeFrame_queueGet (tag : Byte) (line : Byte) :
    judgeFrame ⟨Kind.queueGet, tag, [line]⟩ =
      .command (.queueGet tag line) := rfl

@[simp] theorem judgeFrame_talkList (tag : Byte) (start : Byte) :
    judgeFrame ⟨Kind.talkList, tag, [start]⟩ =
      .command (.talkList tag start) := rfl

@[simp] theorem judgeFrame_talkDrop (tag : Byte) (selector number : Byte) :
    judgeFrame ⟨Kind.talkDrop, tag, [selector, number]⟩ =
      .command (.talkDrop tag selector number) := rfl

@[simp] theorem judgeFrame_laneSet (tag : Byte) (lane enable preference : Byte) :
    judgeFrame ⟨Kind.laneSet, tag, [lane, enable, preference]⟩ =
      .command (.laneSet tag lane enable preference) := rfl

@[simp] theorem judgeFrame_laneGet (tag : Byte) (lane : Byte) :
    judgeFrame ⟨Kind.laneGet, tag, [lane]⟩ =
      .command (.laneGet tag lane) := rfl

@[simp] theorem judgeFrame_laneRetune (tag : Byte) (lane abilities : Byte) :
    judgeFrame ⟨Kind.laneRetune, tag, [lane, abilities]⟩ =
      .command (.laneRetune tag lane abilities) := rfl

@[simp] theorem judgeFrame_laneWake (tag : Byte) (lane : Byte) :
    judgeFrame ⟨Kind.laneWake, tag, [lane]⟩ =
      .command (.laneWake tag lane) := rfl

@[simp] theorem judgeFrame_probe (tag : Byte) (port : Byte) :
    judgeFrame ⟨Kind.probe, tag, [port]⟩ =
      .command (.probe tag port none) := rfl

@[simp] theorem judgeFrame_probeCancel (tag : Byte) (port : Byte) :
    judgeFrame ⟨Kind.probeCancel, tag, [port]⟩ =
      .command (.probeCancel tag port) := rfl

@[simp] theorem judgeFrame_probeGet (tag : Byte) :
    judgeFrame ⟨Kind.probeGet, tag, []⟩ =
      .command (.probeGet tag) := rfl

@[simp] theorem judgeFrame_healthGet (tag : Byte) (lane : Byte) :
    judgeFrame ⟨Kind.healthGet, tag, [lane]⟩ =
      .command (.healthGet tag lane) := rfl

@[simp] theorem judgeFrame_unitGet (tag : Byte) (start : Byte) :
    judgeFrame ⟨Kind.unitGet, tag, [start]⟩ =
      .command (.unitGet tag start) := rfl

@[simp] theorem judgeFrame_guardClear (tag : Byte) (port : Byte) :
    judgeFrame ⟨Kind.guardClear, tag, [port]⟩ =
      .command (.guardClear tag port) := rfl

@[simp] theorem judgeFrame_keySet
    (tag line addr key function kind target l1 l0 cls mode : Byte) :
    judgeFrame ⟨Kind.keySet, tag, [line, addr, key, function, kind, target, l1, l0, cls, mode]⟩ =
      .command (.keySet tag line addr key function kind target (field 16 [l1, l0]) cls mode) := rfl

@[simp] theorem judgeFrame_talkForce (tag number function src kind target l1 l0 cls : Byte) :
    judgeFrame ⟨Kind.talkForce, tag, [number, function, src, kind, target, l1, l0, cls]⟩ =
      .command (.talkForce tag number function src kind target (field 16 [l1, l0]) cls) := rfl

@[simp] theorem judgeFrame_probe_settings (tag port l2 l1 l0 t2 t1 t0 : Byte) :
    judgeFrame ⟨Kind.probe, tag, [port, l2, l1, l0, t2, t1, t0]⟩ =
      .command (.probe tag port (some (field 24 [l2, l1, l0], field 24 [t2, t1, t0]))) := rfl

@[simp] theorem judgeFrame_healthSet (tag i1 i0 e1 e0 h1 h0 auto r1 r0 : Byte) :
    judgeFrame ⟨Kind.healthSet, tag, [i1, i0, e1, e0, h1, h0, auto, r1, r0]⟩ =
      .command (.healthSet tag (field 16 [i1, i0]) (field 16 [e1, e0]) (field 16 [h1, h0]) auto
        (field 16 [r1, r0])) := rfl

/-! A PORT-SET or FILTER-SET body by its section or mode. -/

@[simp] theorem judgePortSet_class (tag port cls : Byte) :
    judgePortSet tag [port, 0#8, cls] = .command (.portSetClass tag port cls) := rfl
@[simp] theorem judgePortSet_levels (tag port t1 t0 m1 m0 : Byte) :
    judgePortSet tag [port, 1#8, t1, t0, m1, m0] =
      .command (.portSetLevels tag port (field 16 [t1, t0]) (field 16 [m1, m0])) := rfl
@[simp] theorem judgePortSet_isolate (tag port onOff : Byte) :
    judgePortSet tag [port, 2#8, onOff] = .command (.portSetIsolate tag port onOff) := rfl
@[simp] theorem judgePortSet_duck (tag port t d1 d0 a1 a0 h1 h0 r1 r0 : Byte) :
    judgePortSet tag [port, 3#8, t, d1, d0, a1, a0, h1, h0, r1, r0] =
      .command (.portSetDuck tag port t (field 16 [d1, d0]) (field 16 [a1, a0]) (field 16 [h1, h0])
        (field 16 [r1, r0])) := rfl
@[simp] theorem judgePortSet_cancelOn (tag port l1 l0 source : Byte) :
    judgePortSet tag [port, 4#8, 1#8, l1, l0, source] =
      .command (.portSetCancelOn tag port (field 16 [l1, l0]) source) := rfl
@[simp] theorem judgePortSet_cancelOff (tag port l1 l0 source : Byte) :
    judgePortSet tag [port, 4#8, 0#8, l1, l0, source] = .command (.portSetCancelOff tag port) := rfl
@[simp] theorem judgePortSet_panel (tag port line addr : Byte) :
    judgePortSet tag [port, 5#8, line, addr] = .command (.portSetPanel tag port line addr) := rfl
@[simp] theorem judgePortSet_lanes_none (tag port primary backup i4 i3 i2 i1 i0 depth : Byte) :
    judgePortSet tag [port, 6#8, primary, backup, 0#8, i4, i3, i2, i1, i0, depth] =
      .command (.portSetLanes tag port primary backup none depth) := rfl
@[simp] theorem judgePortSet_lanes_some (tag port primary backup i4 i3 i2 i1 i0 depth : Byte) :
    judgePortSet tag [port, 6#8, primary, backup, 1#8, i4, i3, i2, i1, i0, depth] =
      .command (.portSetLanes tag port primary backup (some (field 40 [i4, i3, i2, i1, i0]))
        depth) := rfl
@[simp] theorem judgeFilterSet_single (tag line c2 c1 c0 m2 m1 m0 : Byte) :
    judgeFilterSet tag [line, 0#8, c2, c1, c0, m2, m1, m0] =
      .command (.filterSet tag line (.single (field 20 [c2, c1, c0]) (field 20 [m2, m1, m0]))) := rfl
@[simp] theorem judgeFilterSet_dual (tag line a1 a0 m1 m0 b1 b0 n1 n0 : Byte) :
    judgeFilterSet tag [line, 1#8, a1, a0, m1, m0, b1, b0, n1, n0] =
      .command (.filterSet tag line (.dual (field 12 [a1, a0]) (field 12 [m1, m0])
        (field 12 [b1, b0]) (field 12 [n1, n0]))) := rfl

end Sys2Proof.Machine
end

