-- ==== Sys2Proof/Tests/Slice0.lean ====
section
/-! SUPPORT. Tests and witnesses. A test compares one step on a small state with what the document's worked
sequences and tables give; a witness shows operands and states that meet a statement's hypotheses, clause by
clause. -/

namespace Sys2Proof.Tests

open Sys2Proof.Machine

-- One test after the other: run side by side, each waits on a thread of its own.
set_option Elab.async false

/-! ## Well-formed commands -/

theorem smoke_unknown_filter_mode :
    (Instr.filterSet 0 0 (.unknown 0)).wellFormed = false ∧
      (Instr.filterSet 0 0 (.unknown 1)).wellFormed = false ∧
      (Instr.filterSet 0 0 (.unknown 2)).wellFormed = true := by decide +kernel

theorem smoke_member_list :
    (Instr.groupSet 0 0 (List.replicate 247 0)).wellFormed = false ∧
      (Instr.groupSet 0 0 (List.replicate 246 0)).wellFormed = true := by decide +kernel

theorem smoke_reference_edge :
    (Instr.referencePeriodJudgement ⟨false, some 10001⟩).wellFormed = false ∧
      (Instr.referencePeriodJudgement ⟨false, some 10000⟩).wellFormed = true ∧
      (Instr.referencePeriodJudgement ⟨true, none⟩).wellFormed = true := by decide +kernel

theorem smoke_length_byte :
    (Instr.lengthOutOfRange 2).wellFormed = false ∧ (Instr.lengthOutOfRange 250).wellFormed = false ∧
      (Instr.lengthOutOfRange 1).wellFormed = true ∧
      (Instr.lengthOutOfRange 251).wellFormed = true := by decide +kernel

theorem smoke_empty_frames :
    (Instr.laneFrameReceived 0 []).wellFormed = false ∧ (Instr.answer 0 []).wellFormed = false ∧
      (Instr.controlFrameReceived []).wellFormed = false ∧
      (Instr.laneFrameReceived 0 [0]).wellFormed = true := by decide +kernel

/-! ## Wire layouts (11 section 11.6) -/

/-- The bytes of the text "123456789". -/
def digits : List Byte := [0x31, 0x32, 0x33, 0x34, 0x35, 0x36, 0x37, 0x38, 0x39]

/-- The three check values the document gives for those bytes. -/
theorem test_checks :
    controlCheck digits = 0xF4 ∧ panelCheck digits = 0x29B1 ∧ laneCheck digits = 0xFEE8 := by
  decide +kernel

/-- One control frame of each chapter, its body written out from the table of command bodies. -/
theorem test_control_frames :
    judgeFrame ⟨0x01, 9, []⟩ = .command (.identify 9) ∧
      judgeFrame ⟨0x05, 9, [1]⟩ = .command (.clockSetFree 9) ∧
      judgeFrame ⟨0x07, 9, [20, 1, 0x04, 0x00, 0x05, 0x9A]⟩ =
        .command (.portSetLevels 9 20 1024 1434) ∧
      judgeFrame ⟨0x07, 9, [20, 6, 4, 5, 1, 0, 0x40, 0x20, 0x0C, 0x04, 12]⟩ =
        .command (.portSetLanes 9 20 4 5 (some 1075842052) 12) ∧
      judgeFrame ⟨0x09, 9, [40, 12, 0x04, 0x00, 1]⟩ = .command (.xpSet 9 40 12 1024 1) ∧
      judgeFrame ⟨0x10, 9, [5, 3, 12, 20, 3]⟩ = .command (.groupSet 9 5 [12, 20, 3]) ∧
      judgeFrame ⟨0x12, 9, [0, 4, 10, 1, 0, 12, 0x05, 0x9A, 3, 2]⟩ =
        .command (.keySet 9 0 4 10 1 0 12 1434 3 2) ∧
      judgeFrame ⟨0x14, 9, [1, 0, 0x01, 0x23, 0x45, 0x0F, 0xFF, 0xFF]⟩ =
        .command (.filterSet 9 1 (.single 0x12345 0xFFFFF)) ∧
      judgeFrame ⟨0x1F, 9, [12, 0x0F, 0x42, 0x40, 0x01, 0x86, 0xA0]⟩ =
        .command (.probe 9 12 (some (1000000, 100000))) ∧
      judgeFrame ⟨0x1D, 9, [9, 2]⟩ = .command (.laneRetune 9 9 2) ∧
      judgeFrame ⟨0x22, 9, [0, 10, 0, 10, 0, 4, 1, 1, 0x68]⟩ =
        .command (.healthSet 9 10 10 4 1 360) := by decide +kernel

theorem test_frames_refused :
    judgeFrame ⟨0x00, 9, []⟩ = .unknownKind ∧ judgeFrame ⟨0x26, 9, []⟩ = .unknownKind ∧
      judgeFrame ⟨0x01, 9, [0]⟩ = .badLength ∧ judgeFrame ⟨0x07, 9, [20, 7]⟩ = .badArg ∧
      judgeFrame ⟨0x05, 9, [2]⟩ = .badArg ∧ judgeFrame ⟨0x10, 9, [5, 2, 1]⟩ = .badLength := by
  decide +kernel

/-- A RUN word with CALL and ON-AIR in a short frame with its check, an OFFER word and a PAGE word. -/
theorem test_lane_frame :
    receiveLaneFrame (LaneFrame.wire ⟨7, 0xE400, []⟩) = .good 7 (.run true false false true) .short ∧
      parseWord 0xB6C9 = .offer ⟨⟨true, true⟩, .either, 201⟩ true ∧
      parseWord 0x2BE8 = .page 2 true false 1000 := by decide +kernel

/-- A RELEASE of key 3 and a LEVEL of key 9 at step 40 from panel 6, holding keys 4 and 9. -/
theorem test_panel_answer :
    let body : List Byte := [0x02, 6, 0, 0, 0x02, 0x10, 2, 0x1C, 0x4E, 40]
    parseAnswer (body ++ fieldBytes 2 (panelCheck body)) =
      some ⟨6, 0x210, [⟨3, .release, false⟩, ⟨9, .level 40, false⟩]⟩ := by decide +kernel

/-! ## The states of the tests -/

/-- The state a command leaves. -/
def after (i : Instr) (s : State) : State :=
  match exec i s with
  | .next t => t
  | .fault _ | .refused _ => s

/-- The part after reset with an idle transmitter. -/
def base : State := { State.reset with control := {} }

/-- A lane that is LIVE for port 20 in TIGHT, led by the part. -/
def liveLane : Lane :=
  { state := .live, enable := true, boundPort := some 20, role := some .lead, profile := some .tight
    unitHeld := some 764510445610, lastSeq := some 99, silenceTimer := some 72 }

/-- A port of a class and no more. -/
def ofClass (cls : PortClass) : Port := { cls := cls }

/-- A studio of the worked sequences: PANEL port 3 at line 0 address 4, EARPIECE port 12 with its own-voice
cancel against FEED port 40, REMOTE port 20 on LIVE lanes 4 and 5 with its cancel against FEED port 44, FEED
ports 41 and 50. -/
def studio : State :=
  let s := base.modPort 3 fun _ => { cls := .panel, panel := some (0, 4) }
  let s := s.modPort 12 fun _ =>
    { cls := .earpiece, profile := { threshold := some 2 }
      cancel := some { slot := 0, level := 512, returnSource := some 40, lockedDelay := some 1738 } }
  let s := s.modPort 20 fun _ =>
    { cls := .remote, binding := some { primary := some 4, backup := some 5, lead := some 4, buffer := 0 }
      cancel := some { slot := 6, level := 1024, returnSource := some 44, lockedDelay := some 3 } }
  let s := [40, 41, 44, 50].foldl (fun s p => s.modPort p fun _ => ofClass .feed) s
  let s := (s.modLane 4 fun _ => liveLane).modLane 5 fun _ => liveLane
  let s := s.modBuffer 0 fun _ =>
    { owner := some 20, running := true, position := some 100, startSeq := some 90
      lastLane := some 4 }
  let s := (s.modSlot 0 fun _ => { owner := some 12 }).modSlot 6 fun _ =>
    { owner := some 20, history := [(573, 700), (574, 800), (575, 900)] }
  let unit : UnitEntry := { identity := 764510445610, caution := true }
  { s with units := [unit] }

/-- Key 10 of panel 4 on line 0, and its entry and talk in the worked sequence of 07 section 7.9. -/
def key10 : KeyId := ⟨0, 4, 10⟩
def key10Entry : KeyEntry :=
  { function := .talk, target := some (.port 12), level := 1434, cls := 3, mode := .auto }
def talk0 : Talk :=
  { id := 0, maker := .key key10, phase := .active, function := .talk, talkingPort := 3
    target := .port 12, targets := [12], level := 1434, cls := 3, startTime := 0
    outcomes := some [.ok], pairs := [(3, 12)] }

/-- The entry from port 3 into port 12 that talk 0 makes, and programme under it. -/
def programmeEntry : Entry := ⟨40, [⟨.fixed, 1024, 0⟩], 1024, 0, .live⟩
def talkEntry : Entry := ⟨3, [⟨.talk 0, 1434, 3⟩], 1434, 3, .live⟩

/-- The studio with talk 0 standing on the latched key 10. -/
def talking : State :=
  let s := (studio.modKey key10 fun c =>
    { c with entry := key10Entry, state := .latched, pressStamp := some 60000 }).modArbiter fun a =>
    { a with talks := [talk0], lastLine := some 0 }
  s.setInto 12 [programmeEntry, talkEntry]

/-- A command in service of the given kind. -/
def inService (s : State) (kind : Byte) : State :=
  s.modControl fun c => { c with service := some ⟨9, kind, false⟩ }

/-! ## Station timing (01 section 1.9) -/

def timed (t : Timing) : State := { base with timing := t }

theorem test_clock_set_reference :
    (after (.clockSetReference 9) (timed { stationTime := 999 })).timing.lock = .acquire ∧
      (after (.clockSetReference 9) (timed { stationTime := 999 })).reports.queue =
        [⟨.clockState .free .acquire 1000, 0⟩] := by decide +kernel

/-- The sixty-fourth good period of a reference 300 parts per million fast. -/
theorem test_lock :
    let s := timed
      { lock := .acquire, selected := true, goodRun := 63, recentGood := List.replicate 63 (-300) }
    let t := (after (.referencePeriodJudgement ⟨false, some (-300)⟩) s).timing
    t.lock = .locked ∧ t.source = .reference ∧ t.held = some (64 * -300) ∧ t.goodRun = 0 := by
  decide +kernel

theorem test_eighth_bad_period :
    let s := timed
      { lock := .locked, selected := true, source := .reference, held := some (-19200), badRun := 7 }
    let t := (after (.referencePeriodJudgement ⟨false, none⟩) s).timing
    t.lock = .holdover ∧ t.source = .held ∧ t.badRun = 0 ∧ t.holdoverEntries = 1 := by
  decide +kernel

theorem test_clock_set_free :
    let s := timed
      { lock := .locked, selected := true, source := .reference, held := some (-19200) }
    let t := (after (.clockSetFree 9) s).timing
    t.lock = .free ∧ t.selected = false ∧ t.source = .internal ∧ t.held = none := by decide +kernel

theorem test_clock_get :
    let t := after (.clockGet 9) (timed
      { lock := .locked, selected := true, source := .reference, held := some (-19200)
        holdoverEntries := 1 })
    t.unsentReplies =
        [⟨9, 6, .ok, .clock ⟨.locked, true, .reference, some (-19200), 0, 0, 1, 0⟩⟩] ∧
      t.timing.holdoverEntries = 0 := by decide +kernel

/-- Station time wraps, and the pass of frame phase 47 makes a frame boundary due (R8, R9). -/
theorem test_period_wraps :
    let t := (after (.mixPass (Table.replicate 64 0)) (timed
      { stationTime := 0xFFFFFFFF, framePhase := 47, boundaryDue := false })).timing
    t.stationTime = 0 ∧ t.framePhase = 0 ∧ t.boundaryDue = true := by decide +kernel

/-! ## Ports (02 section 2.11) -/

def codes (s : State) : List ResultCode := s.unsentReplies.map Reply.code

theorem test_class_remote :
    let s := (studio.modBuffer 1 fun _ => { owner := some 9 }).modPort 21 fun x => x
    let t := after (.portSetClass 9 21 4) s
    codes t = [.ok] ∧ (t.port 21).cls = .remote ∧
      (t.port 21).binding = some { buffer := 2, depth := 3 } := by decide +kernel

theorem test_class_in_use :
    codes (after (.portSetClass 9 20 2) studio) = [.inUse] ∧
      codes (after (.portSetClass 9 64 2) studio) = [.badArg] := by decide +kernel

theorem test_levels :
    let t := after (.portSetLevels 9 20 1024 1434) studio
    codes t = [.ok] ∧ (t.port 20).master = 1434 ∧
      codes (after (.portSetLevels 9 20 1024 4096) studio) = [.clamped] := by decide +kernel

/-- Port 12's entries are parked by its isolation, and talk 0's outcome with them. -/
theorem test_isolate :
    let t := after (.portSetIsolate 9 12 1) talking
    (t.into 12).map Entry.state = [.parked, .parked] ∧
      t.arbiter.talks.map Talk.outcomes = [some [.parked]] := by decide +kernel

theorem test_duck_pending :
    let s : State := { studio with ducks := studio.ducks.set 12 { state := .ducked, factor := 256 } }
    let t := after (.portSetDuck 9 12 3 512 48 2400 240) s
    codes t = [.ok] ∧ (t.port 12).profile.threshold = some 2 ∧
      (t.port 12).pendingProfile = some ⟨some 3, 512, 48, 2400, 240⟩ := by decide +kernel

theorem test_cancel_on :
    let s := (List.range 6).foldl
      (fun s k => s.modSlot (Fin.ofNat 24 k) fun _ => { owner := some 0 }) base
    let s := (s.modPort 20 fun _ => ofClass .remote).modPort 41 fun _ => ofClass .feed
    let t := after (.portSetCancelOn 9 20 2000 41) s
    codes t = [.clamped] ∧ (t.port 20).cancel = some ⟨6, 1024, some 41, none⟩ := by decide +kernel

theorem test_cancel_off :
    let t := after (.portSetCancelOff 9 20) studio
    codes t = [.ok] ∧ (t.port 20).cancel = none ∧ (t.slot 6).owner = none := by decide +kernel

theorem test_panel_binding :
    codes (after (.portSetPanel 9 3 0 4) talking) = [.inUse] ∧
      codes (after (.portSetPanel 9 12 0 5) studio) = [.wrongClass] ∧
      ((after (.portSetPanel 9 3 0xFF 0xFF) studio).port 3).panel = none := by decide +kernel

theorem test_lanes :
    let t := after (.portSetLanes 9 20 4 5 none 12) studio
    codes t = [.clamped] ∧ (t.port 20).binding.map LaneBinding.depth = some 8 ∧
      codes (after (.portSetLanes 9 20 4 4 none 3) studio) = [.badArg] := by decide +kernel

theorem test_port_get :
    let s := studio.modPort 50 fun x => { x with clipLatch := true, clipCount := 2 }
    let t := after (.portGet 9 50) s
    t.unsentReplies.map Reply.fields = [.port (s.port 50)] ∧ (t.port 50).clipLatch = false ∧
      (t.port 50).clipCount = 0 := by decide +kernel

/-! ## Crosspoints, the Table Writer and the mix (03) -/

/-- Inputs of the given ports, all others 0. -/
def inputs (l : List (PortNo × Int)) : Table 64 (BitVec 24) :=
  l.foldl (fun t x => t.set x.1 (BitVec.ofInt 24 x.2)) (Table.replicate 64 0)

/-- The presenter of 03 section 3.7: ducked to 256, with a cancel term of 150,000. -/
theorem test_presenter_mix :
    let s := (talking.modPort 12 fun x => { x with master := 2048 }).modSlot 0 fun k =>
      { k with history := [((4096 - 1738) % 4096, 300000)] }
    let s : State := { s with ducks := s.ducks.set 12 { state := .ducked, factor := 256, trigger := true } }
    (after (.mixPass (inputs [(40, 2000000), (3, -500000)])) s).mix.outputs.get 12 = -700390 := by
  decide +kernel

/-- The clipping feed of 03 section 3.7: its third pass. -/
theorem test_clipping_feed :
    let s := (talking.modPort 21 fun _ => ofClass .earpiece).setInto 50
      [⟨12, [⟨.fixed, 2048, 0⟩], 2048, 0, .live⟩, ⟨21, [⟨.fixed, 1024, 0⟩], 1024, 0, .live⟩]
    let s := s.modPort 50 fun x => { x with clipLatch := true, clipCount := 1 }
    let t := after (.mixPass (inputs [(12, 3000000), (21, 2500000)])) s
    t.mix.outputs.get 50 = 8388607 ∧ (t.port 50).clipCount = 2 ∧ t.reports.queue = [] := by
  decide +kernel

theorem test_xp_set :
    let t := after (.xpSet 9 40 41 1024 0) studio
    t.unsentReplies = [] ∧
      t.writer.hostPos = some { purpose := .xpSet 40 41, ops := [.place 40 41 .fixed 1024 0] } ∧
      codes (after (.xpSet 9 40 40 1024 0) studio) = [.badArg] ∧
      codes (after (.xpSet 9 40 0 1024 0) studio) = [.wrongClass] := by decide +kernel

/-- Busy during a commit (03 section 3.9). -/
def committing13 : State :=
  talking.modWriter fun w => { w with state := .committing, progress := some 13 }

theorem test_xp_busy :
    codes (after (.xpSet 9 44 41 1024 0) committing13) = [.busy] ∧
      codes (after (.xpClear 9 44 41) committing13) = [.busy] ∧
      codes (after (.sceneCommit 9) committing13) = [.busy] ∧
      codes (after (.sceneBegin 9) committing13) = [.busy] ∧
      codes (after (.sceneAbandon 9) committing13) = [.busy] := by decide +kernel

theorem test_xp_clear :
    (after (.xpClear 9 40 12) talking).writer.hostPos =
      some { purpose := .xpClear, ops := [.withdraw 40 12 .fixed] } := by decide +kernel

theorem test_xp_list :
    (after (.xpList 9 12 1) talking).unsentReplies.map Reply.fields =
      [.entries 2 [talkEntry]] ∧
      (after (.xpList 9 12 8) talking).unsentReplies.map Reply.fields = [.entries 2 []] := by
  decide +kernel

/-- The staging area of 03 section 3.9 after its fifth command. -/
def staging : List Staged :=
  [⟨41, 12, 1024, 0⟩, ⟨40, 13, 900, 0⟩, ⟨12, 12, 1024, 0⟩, ⟨44, 30, 4095, 0⟩, ⟨40, 12, 800, 1⟩]

def staged : State := talking.modWriter fun w => { w with staging := staging }

theorem test_scene_entry :
    let t := after (.sceneEntry 9 41 12 700 0) staged
    t.writer.staging.head? = some ⟨41, 12, 700, 0⟩ ∧ t.writer.staging.length = 5 ∧
      codes (after (.sceneEntry 9 44 30 5000 0) base) = [.clamped] := by decide +kernel

theorem test_scene_emptied :
    (after (.sceneBegin 9) staged).writer.staging = [] ∧
      (after (.sceneAbandon 9) staged).writer.staging = [] := by decide +kernel

theorem test_scene_commit_taken :
    let s := inService (staged.modWriter fun w =>
      { w with hostPos := some { purpose := .sceneCommit, ops := [] } }) Kind.sceneCommit
    let t := after .jobTake s
    t.writer.state = .committing ∧ t.writer.progress = some 0 ∧ codes t = [.ok] := by decide +kernel

/-- Destination 12 of the commit of 03 section 3.9. -/
theorem test_commit_destination :
    let t := after .commitDestination (staged.modWriter fun w =>
      { w with state := .committing, progress := some 12 })
    ((t.into 12).map fun e => (e.source, e.level, e.cls)) =
        [(40, 800, 1), (3, 1434, 3), (41, 1024, 0)] ∧
      t.writer.applied = 2 ∧ t.writer.skipped = 1 ∧ t.writer.lowestSkipped = some 2 ∧
      t.writer.progress = some 13 := by decide +kernel

/-- A job in service in the talk position. -/
def serving (s : State) (j : Job) : State :=
  s.modWriter fun w => { w with state := .servingTalk, talkPos := some j }

theorem test_claim_place :
    let t := after .claimPlace (serving talking
      { purpose := .beginTalk 1, ops := [.place 3 12 (.talk 1) 1024 2, .place 3 3 (.talk 1) 1024 2] })
    ((t.into 12).map fun e => (e.source, e.claims.length, e.level, e.cls)) =
        [(40, 1, 1024, 0), (3, 2, 1434, 3)] ∧
      t.writer.talkPos.map Job.results = some [⟨3, 12, .talk 1, .ok⟩] := by decide +kernel

theorem test_claim_withdraw :
    let t := after .claimWithdraw (serving talking
      { purpose := .endTalk 0, ops := [.withdraw 3 12 (.talk 0)] })
    (t.into 12).map Entry.source = [40] := by decide +kernel

theorem test_claim_level_change :
    let t := after .claimLevelChange (serving talking
      { purpose := .levelStep 0, ops := [.levelChange 0 640 [(3, 12), (3, 20)]] })
    (t.into 12).map Entry.level = [1024, 640] := by decide +kernel

theorem test_job_complete :
    let t := after .writeJobComplete ((serving talking { purpose := .endTalk 0, ops := [] }).modTalk 0
      fun x => { x with phase := .ending, endReason := some .key })
    t.arbiter.talks = [] ∧ t.writer.state = .free ∧
      t.unsentReports = [⟨.talkEnd 0 (.key key10) .key, 0⟩] := by decide +kernel

/-! ## Ducking and own-voice cancel (04) -/

/-- Pass 95 and pass 96 of the full duck: 264, then 256 and DUCKED. -/
theorem test_attack_ends :
    let s : State := { talking with
      ducks := talking.ducks.set 12 { state := .attack, factor := 264, step := some 8, trigger := true } }
    (after (.mixPass (inputs [])) s).duck 12 =
      { state := .ducked, factor := 256, step := some 8, trigger := true } := by decide +kernel

theorem test_hold_expires :
    let s : State := { studio with ducks := studio.ducks.set 12 { state := .hold, factor := 256 } }
    after (.holdExpiry 12) s = { studio with
      ducks := studio.ducks.set 12 { state := .release, factor := 256, step := some 2 } } := by
  decide +kernel

/-- Pass 1,000,000 of 04 section 4.4: position 576 written, position 573 read. -/
theorem test_cancel_slot :
    let s : State := { studio with timing := { studio.timing with stationTime := 1000000 } }
    let s := s.modPort 20 fun x => { x with cls := .earpiece }
    ((after (.mixPass (inputs [(20, 1000)])) s).slot 6).read 576 = 1000 ∧
      s.cancelTerm 20 = 700 := by decide +kernel

/-! ## The Alignment Probe (05 section 5.9) -/

def probing (r : ProbeRun) : State :=
  studio.modProbe fun e => { e with engine := .running, run := some r }

def coarse7 : ProbeRun :=
  { port := 12, returnSource := 40, level := 1000000, threshold := 100000, index := 7
    candidate := 1791, passes := 1807, seen := 16, rounds := 7 }

theorem test_probe_queued :
    let s := probing coarse7
    (after (.probe 9 20 none) s).probe.queue = [20] ∧ codes (after (.probe 9 12 none) s) = [.duplicate] ∧
      codes (after (.probe 9 33 none) s) = [.wrongClass] := by decide +kernel

theorem test_probe_cancel :
    let t := after (.probeCancel 9 12) (probing coarse7)
    t.probe.engine = .settling ∧ t.probe.settle = 4112 ∧
      t.unsentReports = [⟨.probeResult 12 .aborted none (some (.coarse, 1791)) 7 0, 0⟩] := by
  decide +kernel

theorem test_probe_get :
    (after (.probeGet 9) (probing coarse7)).unsentReplies.map Reply.fields =
      [.probe ⟨1000000, 100000, .running, some coarse7.reading, none, []⟩] := by decide +kernel

theorem test_probe_start :
    let t := after .probeStart (studio.modProbe fun e => { e with queue := [12] })
    t.probe.run.map ProbeRun.candidate = some 255 ∧ t.probe.queue = [] := by decide +kernel

/-- Round 7 is seen; round 24 locks 1746. -/
theorem test_window :
    ((after .windowJudgement (probing coarse7)).probe.run.bind ProbeRun.coarse) = some 1791 ∧
      (after .windowJudgement (probing
        { coarse7 with
          stage := .fine, medium := some 1759, index := 3, candidate := 1746, passes := 1762
          seen := 12, rounds := 24 })).unsentReports =
        [⟨.probeResult 12 .locked (some 1746) (some (.fine, 1746)) 24 0, 0⟩] := by decide +kernel

/-- The gap after round 7 leads to medium candidate 1551. -/
theorem test_gap :
    let r := { coarse7 with coarse := some 1791, phase := .gap, passes := 4112 }
    ((after .gapExpiry (probing r)).probe.run.map fun r => (r.stage, r.candidate, r.rounds)) =
      some (.medium, 1551, 8) := by decide +kernel

theorem test_settle :
    (after .settleExpiry (studio.modProbe fun e => { e with engine := .settling })).probe.engine =
      .idle := by decide +kernel

/-! ## Panel lines and Key Queues (06) -/

/-- Panel 4 on line 0 under poll, present. -/
def polled (s : State) : State :=
  (s.modLine 0 fun pl =>
    { pl with pollList := 0x0010, lastPolled := some 4, inProgress := some { addr := 4 } }).modPanel 0 4
    fun x => { x with present := true }

/-- The answer a panel sends: its held keys and its key frames, with their check. -/
def answerBytes (addr : Byte) (held : BitVec 32) (count : Byte) (frames : List Byte) : List Byte :=
  let body := [0x02, addr] ++ fieldBytes 4 held ++ [count] ++ frames
  body ++ fieldBytes 2 (panelCheck body)

theorem test_poll :
    let s := base.modLine 0 fun pl => { pl with pollList := 0x0224, lastPolled := some 5 }
    ((after (.poll 0) s).line 0).frameOut = some (.poll 9) ∧
      ((after (.poll 0) (s.modLine 0 fun pl => { pl with lastPolled := some 9 })).line 0).lastPolled =
        some 2 := by decide +kernel

/-- A release of key 11 stored with its stamp. -/
theorem test_answer_stored :
    let s : State := { polled studio with timing := { stationTime := 0x12345 } }
    let t := after (.answer 0 (answerBytes 4 0 1 [0x5C])) s
    (t.keyQueue 0).records = [⟨4, 11, .release, 0x2345⟩] ∧ (t.keyQueue 0).bytesUsed = 4 := by
  decide +kernel

/-- The echo of 07 section 7.9 step 5: the latched key 10 is left alone, the held key 11 comes to rest. -/
theorem test_echo :
    let s := (polled talking).modKey ⟨0, 4, 11⟩ fun c => { c with state := .held }
    let t := after (.answer 0 (answerBytes 4 0 0 [])) s
    (t.key key10).state = .latched ∧ (t.key ⟨0, 4, 11⟩).state = .idle := by decide +kernel

/-- The fourth miss of 06 section 6.9. -/
theorem test_fourth_miss :
    let s := (polled talking).modPanel 0 4 fun x => { x with missRun := 3 }
    let s := s.modKeyQueue 0 fun q => q.withRecords [⟨4, 7, .press, 0⟩]
    let t := after (.answerWindowExpiry 0) s
    (t.panel 0 4).present = false ∧ (t.keyQueue 0).records = [] ∧
      t.arbiter.talks.map (fun x => (x.phase, x.endReason)) = [(.ending, some .panelAbsent)] ∧
      t.unsentReports = [⟨.panelPresence 0 4 false, 0⟩] := by decide +kernel

theorem test_broken_off :
    let t := after (.answerBrokenOff 0) (polled studio)
    (t.line 0).answerErrors = 1 ∧ (t.panel 0 4).missRun = 1 := by decide +kernel

theorem test_poll_set :
    let t := after (.pollSet 9 0 0x0020) (polled talking)
    (t.line 0).pollList = 0x0020 ∧ (t.key key10).state = .idle ∧
      t.arbiter.talks.map Talk.endReason = [some .pollRemoved] := by decide +kernel

theorem test_filter_set :
    let t := after (.filterSet 9 1 (.dual 0x123 0 0x456 0xFFF)) base
    (t.line 1).filterMode = .dual ∧ (t.line 1).codeB = 0x456 ∧
      codes (after (.filterSet 9 2 (.single 0 0)) base) = [.badArg] := by decide +kernel

theorem test_panel_get :
    let s := (polled studio).modLine 0 fun pl => { pl with answerErrors := 3 }
    let t := after (.panelGet 9 0 4) s
    t.unsentReplies.map Reply.fields =
        [.panel ⟨0x0010, .single 0 (BitVec.allOnes 20), 3, true, { present := true }⟩] ∧
      (t.line 0).answerErrors = 0 := by decide +kernel

theorem test_queue_get :
    let s := base.modKeyQueue 0 fun q => q.withRecords [⟨4, 7, .press, 0⟩, ⟨4, 7, .level 3, 0⟩]
    (after (.queueGet 9 0) s).unsentReplies.map Reply.fields = [.queue 2 9 false false] := by
  decide +kernel

/-! ## Talk arbitration (07 section 7.9) -/

/-- A key record at the head of line 0's queue. -/
def keyed (s : State) (r : KeyRecord) : State := s.modKeyQueue 0 fun q => q.withRecords [r]

/-- Step 1: the press of key 10. -/
theorem test_key_press :
    let s := keyed (studio.modKey key10 fun c => { c with entry := key10Entry }) ⟨4, 10, .press, 60000⟩
    let t := after .keyRecordTake s
    (t.key key10).state = .held ∧ (t.key key10).pressStamp = some 60000 ∧
      t.writer.talkPos =
        some { purpose := .beginTalk 0, ops := [.place 3 12 (.talk 0) 1434 3] } := by decide +kernel

/-- Step 2: the release of key 10, stamped 3,000, latches; stamped 9,000 it ends the talk. -/
theorem test_key_release :
    let s := talking.modKey key10 fun c => { c with state := .held }
    let t := after .keyRecordTake (keyed s ⟨4, 10, .release, 3000⟩)
    let u := after .keyRecordTake (keyed s ⟨4, 10, .release, 9000⟩)
    (t.key key10).state = .latched ∧ (t.keyQueue 0).records = [] ∧ (u.key key10).state = .idle ∧
      u.arbiter.pendingEnds = [0] := by decide +kernel

theorem test_end_job :
    (after .endJobIssue (talking.modArbiter fun a => { a with pendingEnds := [0] })).writer.talkPos =
      some { purpose := .endTalk 0, ops := [.withdraw 3 12 (.talk 0)] } := by decide +kernel

theorem test_long_timer :
    let s : State := { studio with timing := { stationTime := 65536 } }
    let s := s.modKey key10 fun c => { c with state := .held, timer := some 0 }
    ((after (.longTimerExpiry key10) s).key key10).longMark = true := by decide +kernel

theorem test_key_set :
    let t := after (.keySet 9 0 4 10 1 0 12 5000 3 2) studio
    (t.key key10).entry = { key10Entry with level := 4095 } ∧ codes t = [.clamped] := by
  decide +kernel

theorem test_key_get :
    (after (.keyGet 9 0 4 10) talking).unsentReplies.map Reply.fields =
      [.key key10Entry .latched (some (0, .active)) .on] := by decide +kernel

theorem test_group_set :
    (after (.groupSet 9 5 [12, 20, 3]) studio).arbiter.hostWaiting =
        some (.groupSet 5 [12, 20, 3]) ∧
      codes (after (.groupSet 9 5 [12, 12]) studio) = [.badArg] := by decide +kernel

theorem test_group_get :
    (after (.groupGet 9 5) (studio.modArbiter fun a =>
      { a with groups := a.groups.set 5 [12, 20, 3] })).unsentReplies.map Reply.fields =
      [.members [12, 20, 3]] := by decide +kernel

theorem test_talk_force :
    (after (.talkForce 9 2 1 40 0 12 1024 2) studio).arbiter.hostWaiting =
        some (.talkForce 2 .talk 40 (.port 12) 1024 2) ∧
      codes (after (.talkForce 9 2 0 40 0 12 1024 2) studio) = [.badArg] := by decide +kernel

theorem test_talk_drop :
    let s := after (.talkDrop 9 1 0) talking
    let t := after .hostCommandTake s
    s.arbiter.hostWaiting = some (.dropTalk 0) ∧ t.arbiter.jobInFlight = some (.endTalk 0) ∧
      (t.key key10).state = .idle ∧ t.unsentReplies = [] := by decide +kernel

theorem test_talk_list :
    (after (.talkList 9 0) talking).unsentReplies.map Reply.fields = [.talks 1 [talk0.reading]] := by
  decide +kernel

/-! ## Lanes (08, 09) -/

/-- Lane 4 in OFFER with the remote's offer of seed 201 matched twice, its own seed 76 (08 section 8.7). -/
def offering : State :=
  studio.modLane 4 fun x =>
    { x with
      state := .offer, role := none, profile := none, unitHeld := none, ownSeed := 76
      matchedOffer := some ⟨{}, .either, 201⟩, matchCount := 2, lastSeq := some 6 }

/-- The third match with ACK: the seed 76 is below 201, so the part follows, and sends ID0 at once. -/
theorem test_role_follow :
    let x := (after (.laneFrameReceived 4 (LaneFrame.wire ⟨7, 0xB6C9, []⟩)) offering).lane 4
    x.state = .pages ∧ x.role = some .follow ∧ x.txSeq = 1 ∧
      x.frameOut.map LaneFrame.word = some (pageWord .id0 false true 0) := by decide +kernel

/-- Lane 4 awaiting ID3, three parts accepted; lane 5 holds the unit 764,510,445,610. -/
def paging : State :=
  offering.modLane 4 fun x =>
    { x with
      state := .pages, role := some .lead, pageSent := .id3, ownToggle := true, lastToggle := false
      pagesAccepted := some .id2, remoteParts := [712, 5, 1000] }

/-- The remote's ID3 with payload 42 and an echo of 1: ROBUST by caution, and END is sent. -/
theorem test_identity :
    let word := pageWord .id3 true true 42
    let x := (after (.laneFrameReceived 4 (LaneFrame.wire ⟨7, word, []⟩)) paging).lane 4
    x.unitHeld = some 764510445610 ∧ x.profile = some .robust ∧ x.pageSent = .endPage := by
  decide +kernel

theorem test_silence :
    let s := studio.modLane 5 fun x => { x with silenceTimer := some 0, silentCount := 31 }
    let t := after (.silenceExpiry 5) s
    (t.lane 5).state = .seek ∧ (t.lane 5).lostLatch = true ∧
      t.unsentReports = [⟨.laneState 5 (some 20) .live .seek .lost, 0⟩] := by decide +kernel

/-- The third error in a row (08 section 8.8). -/
theorem test_handshake_timeout :
    let s := offering.modLane 4 fun x => { x with progress := 250, consecutiveErrors := 2 }
    let t := after (.handshakeTimeout 4) s
    (t.lane 4).state = .barred ∧ (t.lane 4).barredCount = 1000 ∧
      t.unsentReports = [⟨.laneState 4 (some 20) .offer .barred .errors, 0⟩] := by decide +kernel

theorem test_wake_unanswered :
    let s := studio.modLane 5 fun x => { x with state := .waking, wakeCount := 2000 }
    let t := after (.wakeCountExpiry 5) s
    (t.lane 5).state = .doze ∧ t.unsentReports = [⟨.wakeUnanswered 5 (some 20), 0⟩] := by
  decide +kernel

theorem test_barred_ends :
    let s := studio.modLane 4 fun x => { x with state := .barred, barredCount := 0, unitHeld := none }
    ((after (.barredCountExpiry 4) s).lane 4).state = .seek := by decide +kernel

/-- The boundary for q = 101 of 09 section 9.6: lane 5's copy, a path switch. -/
theorem test_playout :
    let s := studio.modBuffer 0 fun b =>
      { b with position := some 101, slots := b.slots.set 5 (some ⟨101, [(5, [1000001, -3])]⟩) }
    let t := after .frameBoundary s
    (t.buffer 0).presented = [1000001, -3] ∧ (t.buffer 0).position = some 102 ∧
      (t.lane 5).pathSwitches = 1 ∧ (t.lane 4).txSeq = 1 := by decide +kernel

/-- The first concealment of 09 section 9.6. -/
theorem test_concealment :
    let s := studio.modBuffer 0 fun b => { b with position := some 104, lastGood := [1000001, -3] }
    ((after .frameBoundary s).buffer 0).presented = [500001, -1] := by decide +kernel

theorem test_station_id :
    (after (.stationIdSet 9 1075842052) base).stationId = 1075842052 := by decide +kernel

theorem test_lane_set :
    let s := studio.modLane 4 fun x => { x with state := .off, enable := false, unitHeld := none }
    ((after (.laneSet 9 4 1 0) s).lane 4).state = .seek ∧
      ((after (.laneSet 9 4 0 0) studio).lane 4).state = .off := by decide +kernel

theorem test_lane_get :
    let s := studio.modLane 4 fun x => { x with lostLatch := true, frameErrors := 2 }
    let t := after (.laneGet 9 4) s
    t.unsentReplies.map Reply.fields = [.lane (s.lane 4).reading] ∧ (t.lane 4).lostLatch = false ∧
      (t.lane 4).frameErrors = 0 ∧ (t.lane 4).liveHeld = true := by decide +kernel

theorem test_lane_retune :
    let s := studio.modLane 5 fun x => { x with state := .doze }
    let t := after (.laneRetune 9 5 2) s
    (t.lane 5).state = .seek ∧ (t.lane 5).abilities = ⟨false, true⟩ ∧
      codes (after (.laneRetune 9 5 2) studio) = [.notQuiet] := by decide +kernel

theorem test_lane_wake :
    ((after (.laneWake 9 5) (studio.modLane 5 fun x => { x with state := .doze })).lane 5).state =
      .waking := by decide +kernel

/-! ## Contribution health (10 section 10.7) -/

/-- Sweep 1: lane 4's 14 errors with syndromes 52, 20 and 60; lane 5 clean. -/
def sweeping : State :=
  let s : State := { studio with timing := { stationTime := 480000 } }
  let s := s.modHealthRec 4 fun h =>
    { h with
      errors := 14, syndromeAnd := 20, syndromeOr := 60, syndromesSeen := true
      framesAccepted := true, cleanRun := 5 }
  s.modHealthRec 5 fun h => { h with framesAccepted := true, cleanRun := 5 }

theorem test_sweep :
    let t := after .sweepExpiry sweeping
    (t.healthRec 4).cls = .hard ∧ (t.healthRec 5).cls = .good ∧
      (t.port 20).binding.bind LaneBinding.lead = some 5 ∧
      t.unsentReports.map QueuedReport.report =
        [.laneClass 4 20 .good .hard ⟨14, 20, 60⟩, .pathSwap 20 4 5] ∧
      t.units.map (fun e => (e.badSweeps, e.caution, e.lastClass)) = [(1, true, .hard)] := by
  decide +kernel

theorem test_health_set :
    let t := after (.healthSet 9 0 10 4 1 360) base
    t.health.settings = ⟨1, 10, 4, true, 360⟩ ∧ codes t = [.clamped] ∧
      codes (after (.healthSet 9 10 10 4 2 360) base) = [.badArg] := by decide +kernel

theorem test_health_get :
    (after (.healthGet 9 4) sweeping).unsentReplies.map Reply.fields =
      [.health ⟨{}, 480000, sweeping.healthRec 4⟩] := by decide +kernel

theorem test_unit_get :
    (after (.unitGet 9 0) studio).unsentReplies.map Reply.fields = [.units 1 studio.units] := by
  decide +kernel

theorem test_guard_clear :
    let s := (studio.setGuard 20 true).setInto 44 [⟨20, [⟨.fixed, 1024, 0⟩], 1024, 0, .guarded⟩]
    let t := after (.guardClear 9 20) s
    (t.into 44).map Entry.state = [.live] ∧ (t.lane 4).onAir = true ∧
      codes (after (.guardClear 9 12) studio) = [.wrongClass] := by decide +kernel

/-! ## The control line and the resets (11) -/

theorem test_identify :
    (after (.identify 9) base).unsentReplies = [⟨9, 1, .ok, .identity 6424 64 24 0⟩] := by
  decide +kernel

/-- CLOCK-GET in its bytes, received, and dispatched. -/
theorem test_receive_and_dispatch :
    let s := after (.controlFrameReceived (ControlFrame.wire ⟨0x06, 9, []⟩)) base
    s.control.fifo = [⟨0x06, 9, []⟩] ∧ (after .commandDispatch s).control.fifo = [] ∧
      codes (after .commandDispatch s) = [.ok] := by decide +kernel

theorem test_line_errors :
    let s := after (.controlFrameReceived [0xC5]) base
    (after (.lengthOutOfRange 251) s).control.lineErrors = 1 ∧
      (after .lineGapTimeout s).control.lineErrors = 1 ∧
      (after .lineGapTimeout base).control.lineErrors = 0 := by decide +kernel

theorem test_line_get :
    let s := base.modControl fun c => { c with lineErrors := 4 }
    let t := after (.lineGet 9) s
    t.unsentReplies.map Reply.fields = [.lineState 4 0 0 0] ∧ t.control.lineErrors = 0 := by
  decide +kernel

/-- A full queue with two reports lost: the oldest is taken for sending, and the next report offered
carries dropped field 2 (11 section 11.5). -/
def fullQueue : State :=
  { base with
    control := { tx := some (.reply ⟨1, 1, .ok, .empty⟩) }
    reports := ⟨List.replicate 64 ⟨.guardSet 0, 0⟩, 2⟩ }

theorem test_transmit_complete :
    let t := after .transmitComplete fullQueue
    t.reports.queue.length = 63 ∧ t.control.tx = some (.report ⟨.guardSet 0, 0⟩) ∧
      (t.report (.guardSet 1)).reports.queue.getLast? = some ⟨.guardSet 1, 2⟩ ∧
      (t.report (.guardSet 1)).reports.dropped = 0 := by decide +kernel

/-- Replies and reports on the line, written out from the layouts of 11 section 11.6; checks computed by hand. -/
theorem test_reply_and_report_bytes :
    TxFrame.wire (.reply ⟨9, Kind.stationIdSet, .ok, .empty⟩) = [0xC5, 4, 0x80, 9, 0, 3, 0x8D] ∧
      TxFrame.wire (.reply ⟨7, Kind.xpSet, .clamped, .entryState .parked⟩) =
        [0xC5, 5, 0x80, 7, 1, 9, 1, 0xA9] ∧
      TxFrame.wire (.report ⟨.laneState 5 (some 20) .live .seek .lost, 2⟩) =
        [0xC5, 7, 0x9B, 2, 5, 20, 4, 1, 1, 0x95] ∧
      TxFrame.wire (.report ⟨.probeResult 12 .locked (some 1746) (some (.fine, 1746)) 24 1000000, 0⟩) =
        [0xC5, 16, 0x94, 0, 12, 0, 1, 0x06, 0xD2, 1, 2, 0x06, 0xD2, 24, 0, 0x0F, 0x42, 0x40, 0xE7] := by
  decide +kernel

theorem test_restart :
    let s := after (.restart 9) talking
    let t := after .restartTakeEffect (after .transmitComplete s)
    codes s = [.ok] ∧ t.arbiter.talks = [] ∧ t.units.map UnitEntry.retentionLeft = [some 360] ∧
      t.unsentReports = [⟨.ready .restart 0, 0⟩] := by decide +kernel

theorem test_reset :
    let s := after .hardwareReset talking
    s.resetHeld = true ∧ after (.identify 9) s = s ∧ after .resetRelease s = State.reset := by
  decide +kernel

/-! ## Witnesses: states and operands that meet each statement's hypotheses, clause by clause -/

theorem witness_StepTakesTheFrontCommand :
    { base with pending := [.probeStart, .jobTake] }.pending = [.probeStart, .jobTake] ∧
      base.pending = [] := by decide +kernel

theorem witness_ResetLineHoldsThePart :
    { base with resetHeld := true }.resetHeld = true ∧ base.resetHeld = false ∧
      Instr.jobTake ≠ .hardwareReset ∧ Instr.jobTake ≠ .resetRelease := by decide +kernel

theorem witness_RestartKeepsTheTimeBaseAndTheUnits :
    let due := talking.modControl fun c => { c with restart := .effectDue }
    talking.takesCommand = true ∧ due.resetHeld = false ∧ due.control.restart = .effectDue ∧
      talking.control.restart ≠ .effectDue := by decide +kernel

theorem witness_ReceiverTakesFramesWhole :
    let whole : ControlFrame := ⟨0x10, 9, List.replicate 248 0⟩
    let started := base.modControl fun c => { c with rxPhase := .length }
    base.resetHeld = false ∧ base.control.rxPhase = .hunt ∧ whole.body.length ≤ 248 ∧
      base.control.fifo.length < 8 ∧
      (∀ b ∈ ([0xC4, 0xC6, 0] : List Byte), b ≠ 0xC5#8) ∧ started.control.rxPhase ≠ .hunt ∧
      started.control.rxPhase = .length ∧ (1#8).toNat < 2 ∧ 250 < (251#8).toNat ∧
      base.control.rxPhase ≠ .length := by decide +kernel

/-- The part with one frame in its FIFO. -/
def holding (f : ControlFrame) : State := base.modControl fun c => { c with fifo := [f] }

theorem witness_DispatchJudgesTheOldestFrame :
    (holding ⟨0x25, 9, [20]⟩).takesCommand = true ∧
      (holding ⟨0x25, 9, [20]⟩).control.fifo = [⟨0x25, 9, [20]⟩] ∧
      judgeFrame ⟨0x25, 9, [20]⟩ = .command (.guardClear 9 20) ∧
      (0#8).toNat = 0 ∧ 0x25 < (0x26#8).toNat ∧ judgeFrame ⟨0x25, 9, []⟩ = .badLength ∧
      judgeFrame ⟨0x05, 9, [2]⟩ = .badArg ∧ base.control.fifo = [] ∧
      (inService base 9).takesCommand = false ∧
      (Instr.clockGet 9).frame? = some ⟨6, 9, []⟩ := by decide +kernel

theorem witness_FrameOfACommandReadsBack :
    (Instr.portSetLevels 9 20 1024 1434).wellFormed = true ∧
      (Instr.portSetLevels 9 20 1024 1434).frame? =
        some ⟨7, 9, [20, 1, 0x04, 0x00, 0x05, 0x9A]⟩ := by decide +kernel

theorem witness_BytesOnTheLineCarryTheCommandOut :
    (Instr.portSetLevels 9 20 1024 1434).wellFormed = true ∧
      (Instr.portSetLevels 9 20 1024 1434).frame? =
        some ⟨7, 9, [20, 1, 0x04, 0x00, 0x05, 0x9A]⟩ ∧
      studio.takesCommand = true ∧ studio.control.rxPhase = .hunt ∧ studio.control.fifo = [] := by
  decide +kernel

theorem witness_TransmitterSendsRepliesFirst :
    let r : Reply := ⟨1, 1, .ok, .empty⟩
    let sending (restart : RestartPhase) (replies : List Reply) : State :=
      base.modControl fun c => { c with tx := some (.reply r), restart := restart, replies := replies }
    (sending .none [r]).resetHeld = false ∧ (sending .none [r]).control.tx = some (.reply r) ∧
      (sending .none [r]).control.restart = .none ∧ (sending .none [r]).control.replies = [r] ∧
      (sending .replying [r]).control.replies ≠ [] ∧
      fullQueue.control.tx = some (.reply r) ∧ fullQueue.control.replies = [] ∧
      fullQueue.reports.queue = ⟨.guardSet 0, 0⟩ :: List.replicate 63 ⟨.guardSet 0, 0⟩ ∧
      (sending .none []).reports.queue = [] ∧ (sending .replying []).control.replies = [] ∧
      (sending .replying []).control.restart = .replying := by decide +kernel

theorem witness_IdentityLineAndClockReadings : studio.takesCommand = true := by decide +kernel

theorem witness_ClockSetByLockState :
    studio.takesCommand = true ∧ studio.timing.lock = .free ∧
      (timed { lock := .acquire, selected := true }).takesCommand = true ∧
      (timed { lock := .acquire, selected := true }).timing.lock ≠ .free := by decide +kernel

theorem witness_AcquireLocksOnTheSixtyFourthGoodPeriod :
    let run (n : Nat) : State := timed
      { lock := .acquire, selected := true, goodRun := n, recentGood := List.replicate n 0 }
    base.resetHeld = false ∧ base.timing.selected = false ∧ base.timing.lock = .free ∧
      (run 62).timing.selected = true ∧ (run 62).timing.lock = .acquire ∧
      goodPeriod? ⟨false, some 10001⟩ = none ∧ goodPeriod? ⟨true, some 0⟩ = none ∧
      goodPeriod? ⟨false, some (-10000)⟩ = some (-10000) ∧
      goodPeriod? ⟨false, some 10000⟩ = some 10000 ∧ (run 62).timing.goodRun < 63 ∧
      63 ≤ (run 63).timing.goodRun := by decide +kernel

theorem witness_LockedAndHoldoverJudgements :
    let locked (bad : Nat) : State := timed
      { lock := .locked, selected := true, source := .reference, held := some 0, badRun := bad }
    let away : State := timed { lock := .holdover, selected := true, source := .held, held := some 0 }
    let probed := (locked 7).modProbe fun e => { e with run := some coarse7 }
    (locked 6).resetHeld = false ∧ (locked 6).timing.selected = true ∧
      (locked 6).timing.lock = .locked ∧ goodPeriod? ⟨false, some 5⟩ = some 5 ∧
      goodPeriod? ⟨false, none⟩ = none ∧ (locked 6).timing.badRun < 7 ∧
      7 ≤ (locked 7).timing.badRun ∧ (locked 7).probe.run = none ∧
      probed.probe.run = some coarse7 ∧ (probed.port coarse7.port).cancel = none ∧
      (probing coarse7).probe.run = some coarse7 ∧
      ((probing coarse7).port coarse7.port).cancel ≠ none ∧
      (after (.referencePeriodJudgement ⟨false, none⟩)
        { probing coarse7 with timing := (locked 7).timing }).unsentReports.map QueuedReport.report =
          [.clockState .locked .holdover 1,
            .probeResult 12 .clock none (some (.coarse, 1791)) 7 0] ∧
      probed.reports.queue.length + 2 ≤ 64 ∧ away.timing.lock = .holdover ∧
      away.timing.selected = true := by decide +kernel

/-- Every Path Buffer has an owner. -/
def fullBuffers : State := { studio with buffers := Table.replicate 16 { owner := some 0 } }

theorem witness_ClassChangeRebuildsTheSections :
    studio.takesCommand = true ∧ 64 ≤ (64#8).toNat ∧ 5 ≤ (5#8).toNat ∧
      (63#8).toNat = (63 : PortNo).val ∧ portClass? 4 = some .remote ∧
      portClass? 0 = some .unused ∧ PortClass.unused = (studio.port 63).cls ∧
      PortClass.remote ≠ (studio.port 63).cls ∧ studio.portInUse 20 = true ∧
      studio.portInUse 63 = false ∧ (∀ b, (fullBuffers.buffer b).owner ≠ none) ∧
      fullBuffers.takesCommand = true ∧ fullBuffers.portInUse 63 = false ∧
      (studio.buffer 1).owner = none ∧ PortClass.unused ≠ (studio.port 41).cls ∧
      studio.portInUse 41 = false := by decide +kernel

theorem witness_LevelsAreClampedAndRead :
    studio.takesCommand = true ∧ 64 ≤ (64#8).toNat ∧ (63#8).toNat = (63 : PortNo).val := by
  decide +kernel

theorem base_crosspoints : studio.CrosspointsSound := by
  unfold State.CrosspointsSound Entry.Sound
  decide +kernel

theorem talking_crosspoints : talking.CrosspointsSound := by
  unfold State.CrosspointsSound Entry.Sound
  decide +kernel

theorem witness_IsolateRestatesEveryEntryOfThePort :
    let probed := talking.modProbe fun e => { e with engine := .running, run := some coarse7 }
    (talking.takesCommand = true ∧ talking.CrosspointsSound) ∧
      (64 ≤ (64#8).toNat ∧ 2 ≤ (2#8).toNat ∧ (12#8).toNat = (12 : PortNo).val ∧
        onOff? 1 = some true ∧ onOff? 0 = some false ∧ (talking.port 0).cls = .unused ∧
        (talking.port 12).cls ≠ .unused ∧ (talking.port 12).isolated = false ∧
        (talking.port 12).isolated ≠ true ∧ probed.takesCommand = true ∧
        probed.probe.run = some coarse7 ∧ coarse7.port = 12 ∧ coarse7.returnSource = 40) :=
  ⟨⟨by decide +kernel, talking_crosspoints⟩, by decide +kernel⟩

theorem witness_DuckProfileAppliesInOpen :
    let profile (attack : Nat) : DuckProfile := ⟨some 3, 512, attack, 2400, 240⟩
    let ducked : State := { talking with ducks := talking.ducks.set 12 { state := .ducked } }
    talking.takesCommand = true ∧ 64 ≤ (64#8).toNat ∧ 3 < (4#8).toNat ∧ 4#8 ≠ 0xFF#8 ∧
      (12#8).toNat = (12 : PortNo).val ∧ (3 : XpClass) ≠ 0 ∧ (3#8).toNat = (3 : XpClass).val ∧
      (talking.port 0).cls = .unused ∧ (talking.port 12).cls ≠ .unused ∧
      (talking.duck 12).state = .opened ∧ triggerOf (profile 48) (talking.into 12) = true ∧
      (profile 48).attack ≠ 0 ∧ triggerOf (profile 0) (talking.into 12) = true ∧
      triggerOf (profile 48) (talking.into 3) = false ∧ (talking.port 3).cls ≠ .unused ∧
      (talking.duck 3).state = .opened ∧ ducked.takesCommand = true ∧
      (ducked.duck 12).state ≠ .opened := by decide +kernel

/-- Every cancel slot has an owner. -/
def fullSlots : State := { studio with cancel := Table.replicate 24 { owner := some 0 } }

/-- Port 20 waits in the probe queue. -/
def queued20 : State := studio.modProbe fun e => { e with queue := [20] }

theorem witness_CancelOnTakesTheLowestFreeSlot :
    studio.takesCommand = true ∧ 64 ≤ (64#8).toNat ∧ 64#8 ≠ 0xFF#8 ∧
      (20#8).toNat = (20 : PortNo).val ∧ some (44 : PortNo) ≠ some 20 ∧
      (44#8).toNat = (44 : PortNo).val ∧ (studio.port 0).cls = .unused ∧
      (studio.port 12).cls ≠ .feed ∧ (studio.port 3).cls ≠ .unused ∧ (studio.port 44).cls = .feed ∧
      (fullSlots.port 3).cancel = none ∧ (∀ k, (fullSlots.slot k).owner ≠ none) ∧
      (studio.port 3).cancel = none ∧ (studio.slot 1).owner = none ∧
      (∀ k, (studio.slot k).owner = none → (1 : SlotNo) ≤ k) ∧
      (studio.port 20).cancel = some ⟨6, 1024, some 44, some 3⟩ ∧ studio.underProbe 20 = false ∧
      (20 : PortNo) ∉ studio.probe.queue ∧ (probing coarse7).underProbe 12 = true ∧
      (probing coarse7).takesCommand = true ∧ some (44 : PortNo) ≠ some 40 ∧
      queued20.underProbe 20 = false ∧ (20 : PortNo) ∈ queued20.probe.queue ∧
      queued20.takesCommand = true := by decide +kernel

theorem witness_CancelOffFreesTheSlot :
    studio.takesCommand = true ∧ 64 ≤ (64#8).toNat ∧ (20#8).toNat = (20 : PortNo).val ∧
      (studio.port 3).cancel = none ∧ (studio.port 20).cancel = some ⟨6, 1024, some 44, some 3⟩ ∧
      studio.underProbe 20 = false ∧ (20 : PortNo) ∉ studio.probe.queue ∧
      (20 : PortNo) ∈ queued20.probe.queue ∧ queued20.underProbe 20 = false ∧
      (probing coarse7).probe.run = some coarse7 ∧ coarse7.port = 12 ∧
      (12 : PortNo) ∉ (probing coarse7).probe.queue := by decide +kernel

theorem witness_PanelBindingIsExclusive :
    let second := studio.modPort 4 fun _ => ofClass .panel
    second.takesCommand = true ∧ 64 ≤ (64#8).toNat ∧ 2 ≤ (2#8).toNat ∧ 16 ≤ (16#8).toNat ∧
      (4#8).toNat = (4 : PortNo).val ∧ (0#8).toNat = (0 : LineNo).val ∧
      (4#8).toNat = (4 : PanelAddr).val ∧ (second.port 12).cls ≠ .panel ∧
      (second.port 4).cls = .panel ∧ (second.port 3).panel = some (0, 4) ∧
      (second.port 3).cls = .panel ∧
      (∀ q, q ≠ (4 : PortNo) → (second.port q).cls = .panel → (second.port q).panel ≠ some (1, 15)) ∧
      (∀ x ∈ second.arbiter.talks, x.talkingPort ≠ 4) ∧ talk0 ∈ talking.arbiter.talks ∧
      talk0.talkingPort = 3 ∧ (talking.port 3).cls = .panel := by decide +kernel

theorem witness_LaneBindingMovesTheLanes :
    let other := (studio.modPort 21 fun _ => { cls := .remote, binding := some { buffer := 1 } })
    other.takesCommand = true ∧ 64 ≤ (64#8).toNat ∧ 24 ≤ (24#8).toNat ∧ 24#8 ≠ 0xFF#8 ∧
      (23#8).toNat = (23 : LaneNo).val ∧ (other.port 12).cls ≠ .remote ∧
      (other.port 20).cls = .remote ∧
      (other.port 20).binding =
        some { primary := some 4, backup := some 5, lead := some 4, buffer := 0 } ∧
      (other.port 21).cls = .remote ∧ (other.port 21).binding = some { buffer := 1 } ∧
      (other.lane 4).boundPort = some 20 ∧ (20 : PortNo) ≠ 21 ∧
      (∀ l ∈ [(4 : LaneNo), 23], ∀ q, (other.lane l).boundPort = some q → q = 20) := by
  decide +kernel

theorem witness_HostJobsWaitInTheHostPosition :
    studio.takesCommand = true ∧ 64 ≤ (64#8).toNat ∧ 4 ≤ (4#8).toNat ∧
      (40#8).toNat = (40 : PortNo).val ∧ (12#8).toNat = (12 : PortNo).val ∧ (40 : PortNo) ≠ 12 ∧
      (3#8).toNat = (3 : XpClass).val ∧ (studio.port 0).cls = .unused ∧
      (studio.port 40).cls ≠ .unused ∧ (studio.port 12).cls ≠ .unused ∧
      committing13.writer.state = .committing ∧ committing13.takesCommand = true ∧
      (committing13.port 40).cls ≠ .unused ∧ (committing13.port 12).cls ≠ .unused ∧
      studio.writer.state ≠ .committing := by decide +kernel

theorem witness_ScenesAreStaged :
    let full := studio.modWriter fun w => { w with staging := List.replicate 512 ⟨1, 2, 0, 0⟩ }
    committing13.takesCommand = true ∧ committing13.writer.state = .committing ∧
      staged.takesCommand = true ∧ staged.writer.state ≠ .committing ∧ 64 ≤ (64#8).toNat ∧
      4 ≤ (4#8).toNat ∧ (41#8).toNat = (41 : PortNo).val ∧ (12#8).toNat = (12 : PortNo).val ∧
      (3#8).toNat = (3 : XpClass).val ∧
      (∃ x ∈ staged.writer.staging, x.src = 41 ∧ x.dst = 12) ∧
      (∀ x ∈ staged.writer.staging, ¬ (x.src = 63 ∧ x.dst = 12)) ∧
      staged.writer.staging.length < 512 ∧ full.takesCommand = true ∧
      full.writer.state ≠ .committing ∧ 512 ≤ full.writer.staging.length ∧
      (∀ x ∈ full.writer.staging, ¬ (x.src = 63 ∧ x.dst = 12)) := by decide +kernel

theorem witness_WriterTakesTalkJobsFirst :
    let job (p : Purpose) : Job := { purpose := p, ops := [] }
    let waiting (p : Purpose) : State :=
      inService (base.modWriter fun w => { w with hostPos := some (job p) }) 9
    let talk := base.modWriter fun w => { w with talkPos := some (job (.endTalk 0)) }
    base.resetHeld = false ∧ committing13.writer.state ≠ .free ∧ base.writer.talkPos = none ∧
      base.writer.hostPos = none ∧ talk.writer.state = .free ∧
      talk.writer.talkPos = some (job (.endTalk 0)) ∧ (waiting .xpClear).writer.state = .free ∧
      (waiting .xpClear).writer.talkPos = none ∧
      (waiting .xpClear).writer.hostPos = some (job .xpClear) ∧
      (job .xpClear).purpose ≠ .sceneCommit ∧
      (waiting .sceneCommit).writer.hostPos = some (job .sceneCommit) ∧
      (waiting .sceneCommit).control.service = some ⟨9, 9, false⟩ := by decide +kernel

/-- A job of one placement in service on a state. -/
def placing (s : State) (src dst : PortNo) (o : Origin) : State :=
  serving s { purpose := .beginTalk 1, ops := [.place src dst o 1024 2] }

/-- An entry with eight claims, and a destination with 32 entries. -/
def crowded : State :=
  let claims : List Claim := (List.range 8).map fun n => ⟨.talk (Fin.ofNat 128 (n + 2)), 1024, 1⟩
  let s := studio.setInto 41 [⟨40, claims, 1024, 1, .live⟩]
  s.setInto 50 ((List.range 32).map fun n => ⟨Fin.ofNat 64 n, [⟨.fixed, 1, 0⟩], 1, 0, .live⟩)

theorem witness_PlacementTakesTheFirstCase :
    let j : Job := { purpose := .beginTalk 1, ops := [.place 3 12 (.talk 1) 1024 2] }
    let s := placing talking 3 12 (.talk 1)
    s.resetHeld = false ∧ s.jobServed? = some j ∧ j.ops = [.place 3 12 (.talk 1) 1024 2] ∧
      (placing talking 3 3 .fixed).jobServed?.map Job.ops = some [.place 3 3 .fixed 1024 2] ∧
      (3 : PortNo) ≠ 12 ∧ (s.port 0).cls = .unused ∧ (s.port 3).cls ≠ .unused ∧
      (s.port 12).cls ≠ .unused ∧ s.entry? 3 12 = some talkEntry ∧
      talkEntry.hasOrigin (.talk 0) = true ∧ talkEntry.hasOrigin (.talk 1) = false ∧
      talkEntry.claims.length < 8 ∧
      (crowded.entry? 40 41).any (fun e => !e.hasOrigin .fixed && decide (8 ≤ e.claims.length)) =
        true ∧
      crowded.entry? 40 50 = none ∧ 32 ≤ (crowded.into 50).length ∧
      (crowded.port 40).cls ≠ .unused ∧ (crowded.port 50).cls ≠ .unused ∧
      s.entry? 3 40 = none ∧ (s.into 40).length < 32 ∧ s.entryCount < 1024 ∧
      (s.port 3).boundLanes = [] ∧ (s.port 12).boundLanes = [] := by decide +kernel

theorem serving_crosspoints (j : Job) : (serving talking j).CrosspointsSound := talking_crosspoints

theorem witness_WithdrawalAndLevelChange :
    let withdrawing (o : Origin) : Job := { purpose := .endTalk 0, ops := [.withdraw 3 12 o] }
    let stepping : Job := { purpose := .levelStep 0, ops := [.levelChange 0 640 [(3, 12), (3, 20)]] }
    (∀ j, (serving talking j).CrosspointsSound) ∧
      ((serving talking stepping).resetHeld = false ∧
        (serving talking stepping).jobServed? = some stepping ∧
        (serving talking (withdrawing (.talk 0))).jobServed? = some (withdrawing (.talk 0)) ∧
        talking.entry? 3 12 = some talkEntry ∧ talkEntry.hasOrigin (.talk 0) = true ∧
        talkEntry.hasOrigin .fixed = false) :=
  ⟨serving_crosspoints, by decide +kernel⟩

/-- A host job with no operation left. -/
def hostDone (s : State) (j : Job) : State :=
  inService (s.modWriter fun w => { w with state := .servingHost, hostPos := some j }) Kind.xpSet

theorem witness_HostJobsCompleteWithTheirReplies :
    let job (o : PlaceOutcome) : Job :=
      { purpose := .xpSet 40 12, ops := [], results := [⟨40, 12, .fixed, o⟩] }
    let clear : Job := { purpose := .xpClear, ops := [] }
    (∀ o, (hostDone talking (job o)).resetHeld = false ∧
      (hostDone talking (job o)).writer.state = .servingHost ∧
      (hostDone talking (job o)).writer.hostPos = some (job o) ∧ (job o).ops = [] ∧
      (hostDone talking (job o)).control.service = some ⟨9, Kind.xpSet, false⟩) ∧
    (hostDone talking clear).writer.hostPos = some clear ∧ clear.purpose = .xpClear := by
  refine ⟨fun o => ⟨?_, ?_, ?_, ?_, ?_⟩, ?_⟩
  all_goals first | rfl | decide +kernel

/-- Talk 0 in BEGINNING, its key record in service, its job done. -/
def beginning : Talk := { talk0 with phase := .beginning, outcomes := none }
def beginDone (work : Work) (ended : Option EndReason) : State :=
  (serving talking { purpose := .beginTalk 0, ops := [], results := [⟨3, 12, .talk 0, .ok⟩] }).modArbiter
    fun a =>
      { a with
        talks := [{ beginning with endRequested := ended }], work := some work
        jobInFlight := some (.beginTalk 0) }

theorem witness_BeginJobMakesTheTalkActive :
    let record : Work := .record 0 ⟨4, 10, .press, 60000⟩
    let host : Work := .host (.talkForce 2 .talk 3 (.port 12) 1434 3)
    let s := beginDone record none
    s.resetHeld = false ∧ s.writer.state = .servingTalk ∧
      s.writer.talkPos.map Job.ops = some [] ∧
      s.writer.talkPos.map Job.purpose = some (.beginTalk 0) ∧ s.talk? 0 = some beginning ∧
      beginning.function ≠ .call ∧ beginning.endRequested = none ∧
      ((beginDone record (some .host)).talk? 0).bind Talk.endRequested = some .host ∧
      s.arbiter.work = some record ∧ (beginDone host none).arbiter.work = some host ∧
      (inService (beginDone host none) Kind.talkForce).control.service =
        some ⟨9, Kind.talkForce, false⟩ := by decide +kernel

/-- Talk 0 ENDING, its end job done. -/
def endDone : State :=
  (serving talking { purpose := .endTalk 0, ops := [] }).modArbiter fun a =>
    { a with
      talks := [{ talk0 with phase := .ending, endReason := some .key }]
      jobInFlight := some (.endTalk 0) }

theorem witness_EndAndLevelJobsComplete :
    let host := inService (endDone.modArbiter fun a => { a with work := some (.host (.dropTalk 0)) }) 9
    let step := (serving talking { purpose := .levelStep 0, ops := [] }).modArbiter fun a =>
      { a with work := some (.record 0 ⟨4, 10, .level 40, 0⟩) }
    endDone.resetHeld = false ∧ endDone.writer.state = .servingTalk ∧
      endDone.writer.talkPos = some { purpose := .endTalk 0, ops := [] } ∧
      (endDone.talk? 0).bind Talk.endReason = some .key ∧ endDone.arbiter.work = none ∧
      host.arbiter.work = some (.host (.dropTalk 0)) ∧ host.control.service = some ⟨9, 9, false⟩ ∧
      step.writer.talkPos = some { purpose := .levelStep 0, ops := [] } ∧
      step.arbiter.work = some (.record 0 ⟨4, 10, .level 40, 0⟩) := by decide +kernel

def committing (d : PortNo) : State :=
  staged.modWriter fun w => { w with state := .committing, progress := some d }

theorem witness_CommitGoesDestinationByDestination :
    let talk := (committing 12).modWriter fun w =>
      { w with talkPos := some { purpose := .endTalk 0, ops := [] } }
    ((committing 12).CrosspointsSound ∧ (committing 63).CrosspointsSound) ∧
      ((committing 12).resetHeld = false ∧ (committing 12).writer.state = .committing ∧
        (committing 12).writer.progress = some 12 ∧ (committing 12).writer.talkPos = none ∧
        (committing 63).writer.progress = some 63 ∧ (12 : PortNo).val < 63 ∧
        (staging.map Staged.src).head? = some 41 ∧
        (((committing 12).writer.staging.filter fun x => x.dst = 12).map Staged.src).Nodup ∧
        talk.writer.talkPos ≠ none) :=
  ⟨⟨talking_crosspoints, talking_crosspoints⟩, by decide +kernel⟩

/-- A commit with a talk job waiting, and one with room for all that is staged. -/
theorem witness_CommitServesATalkJob :
    let job : Job := { purpose := .endTalk 0, ops := [.withdraw 3 12 (.talk 0)] }
    let talk := ((committing 12).modWriter fun w => { w with talkPos := some job }).modArbiter fun a =>
      { a with talks := [{ talk0 with phase := .ending, endReason := some .key }] }
    let begun := ((committing 12).modWriter fun w =>
      { w with talkPos := some { purpose := .beginTalk 0, ops := [] } }).modArbiter fun a =>
      { a with talks := [beginning] }
    let roomy := (committing 12).modWriter fun w => { w with staging := [⟨41, 12, 1024, 0⟩] }
    (talk.CrosspointsSound ∧ roomy.CrosspointsSound ∧ talk.TalkJobSound) ∧
      talk.resetHeld = false ∧ talk.writer.talkPos = some job ∧
      (talk.talk? 0).bind Talk.endReason = some .key ∧ begun.talk? 0 = some beginning ∧
      (talk.port 12).cls ≠ .unused ∧
      (∀ x ∈ roomy.writer.staging, x.dst = 12 → x.src ≠ 12 ∧ (roomy.port x.src).cls ≠ .unused) ∧
      (∀ e ∈ roomy.into 12, e.claims.length < 8) ∧ (roomy.into 12).length + 1 ≤ 32 ∧
      roomy.entryCount + 1 ≤ 1024 := by
  refine ⟨⟨talking_crosspoints, talking_crosspoints, ?_⟩, by decide +kernel⟩
  rintro j hj op hop src dst
  cases hj
  simp_all

theorem witness_MixPassAdvancesThePeriod :
    let marker := probing { coarse7 with passes := 1806 }
    let gap := probing { coarse7 with phase := .gap, passes := 4111 }
    studio.resetHeld = false ∧ marker.probe.engine = .running ∧
      marker.probe.run = some { coarse7 with passes := 1806 } ∧ coarse7.phase = .marker ∧
      1806 < coarse7.candidate + 16 ∧
      gap.probe.run = some { coarse7 with phase := .gap, passes := 4111 } ∧
      (studio.modProbe fun e => { e with engine := .settling }).probe.engine = .settling := by
  decide +kernel

theorem witness_OutputsFollowTheMixRules :
    talking.resetHeld = false ∧ (talking.port 0).cls = .unused ∧ (talking.port 12).cls ≠ .unused ∧
      (talking.port 12).isolated = false ∧ (probing coarse7).probe.run = some coarse7 ∧
      coarse7.port = 12 ∧ talking.probe.run = none := by decide +kernel

theorem witness_ClipsAreCountedOncePerPass :
    let s := talking.setInto 50 [⟨12, [⟨.fixed, 4095, 0⟩], 4095, 0, .live⟩]
    let x := s.conditionedInputs (inputs [(12, 8388607)])
    s.resetHeld = false ∧ (s.port 50).cls ≠ .unused ∧ (s.port 50).isolated = false ∧
      8388607 < (s.recordSlots x).scaledMix x 50 ∧ (s.port 50).clipLatch = false ∧
      (∀ d, d ≠ (50 : PortNo) → ¬ ((s.port d).cls ≠ .unused ∧ (s.port d).isolated = false ∧
        ((s.recordSlots x).scaledMix x d < -8388608 ∨
          8388607 < (s.recordSlots x).scaledMix x d))) := by decide +kernel

theorem witness_DuckUnitsAdvanceOneStepAPass :
    let unit (u : Duck) : State := { studio with ducks := studio.ducks.set 12 u }
    let release (n : Nat) : State := (unit { state := .hold, factor := 256 }).modPort 12 fun x =>
      { x with profile := { x.profile with release := n } }
    studio.resetHeld = false ∧ (studio.port 0).cls = .unused ∧ (studio.port 12).cls ≠ .unused ∧
      (studio.duck 12).state = .opened ∧
      ((unit { state := .attack, factor := 264, step := some 8 }).duck 12).state = .attack ∧
      ((unit { state := .ducked, factor := 256 }).duck 12).state = .ducked ∧
      ((unit { state := .hold, factor := 256, holdRemaining := 1 }).duck 12).holdRemaining ≠ 0 ∧
      ((unit { state := .release, factor := 1021, step := some 2 }).duck 12).factor + 2 < 1024 ∧
      1024 ≤ ((unit { state := .release, factor := 1022, step := some 2 }).duck 12).factor + 2 ∧
      triggerOf (studio.port 12).profile (studio.into 12) = false ∧
      ((release 480).duck 12).state = .hold ∧ ((release 480).duck 12).holdRemaining = 0 ∧
      ((release 480).port 12).profile.release ≠ 0 ∧ ((release 0).port 12).profile.release = 0 ∧
      triggerOf ((release 0).port 12).profile ((release 0).into 12) = false ∧
      triggerOf (talking.port 12).profile (talking.into 12) = true := by decide +kernel

theorem studio_cancel : studio.CancelSound := by
  unfold State.CancelSound CancelSlot.Sound
  decide +kernel

theorem witness_CancelSlotsRecordThePass :
    (studio.resetHeld = false ∧ studio.CancelSound) ∧
      ((studio.slot 1).owner = none ∧ (studio.slot 6).owner = some 20 ∧
        (studio.port 3).cancel = none ∧
        (studio.port 20).cancel = some ⟨6, 1024, some 44, some 3⟩ ∧ studio.underProbe 20 = false ∧
        (probing coarse7).underProbe 12 = true ∧ (probing coarse7).CancelSound =
          studio.CancelSound) :=
  ⟨⟨by decide +kernel, studio_cancel⟩, by decide +kernel, by decide +kernel, by decide +kernel,
    by decide +kernel, by decide +kernel, by decide +kernel, rfl⟩

theorem witness_FrameBoundarySendsAndPlays :
    let lane (f : Lane → Lane) : State := studio.modLane 4 f
    let past : State := { studio with timing := { studio.timing with boundaryDue := false } }
    let barred := lane fun x => { x with state := .barred, barredCount := 1 }
    let copy := studio.modBuffer 0 fun b => b.store 4 100 zeroBlock
    past.timing.boundaryDue = false ∧ studio.resetHeld = false ∧ studio.timing.boundaryDue = true ∧
      (studio.lane 0).state = .off ∧
      ((lane fun x => { x with role := some .follow }).lane 4).role ≠ some .lead ∧
      (barred.lane 4).state = .barred ∧
      ((lane fun x => { x with state := .seek, role := none }).lane 4).state = .seek ∧
      ((lane fun x => { x with state := .pages }).lane 4).state = .pages ∧
      ((lane fun x => { x with state := .doze, dozeBoundaries := 14 }).lane 4).dozeBoundaries < 15 ∧
      15 ≤ ((lane fun x => { x with state := .doze, dozeBoundaries := 15 }).lane 4).dozeBoundaries ∧
      (studio.lane 4).role = some .lead ∧ (studio.lane 4).boundPort = some 20 ∧
      (studio.lane 4).state = .live ∧ (studio.lane 4).profile = some .tight ∧
      (studio.buffer 1).owner = none ∧ (studio.buffer 0).owner = some 20 ∧
      (studio.buffer 0).running = true ∧ (studio.buffer 0).position = some 100 ∧
      ((studio.port 20).binding.bind LaneBinding.lead) = some 4 ∧
      ((copy.buffer 0).copies 100).find? (fun c => decide (c.1 = 4)) = some (4, zeroBlock) := by
  decide +kernel

/-- Another lane's copy, the wait before the start sequence, and the eighth concealment in a row. -/
theorem witness_FrameBoundaryPlaysOtherCopiesAndConceals :
    let other := studio.modBuffer 0 fun b => b.store 5 100 zeroBlock
    let before := studio.modBuffer 0 fun b => { b with startSeq := some 101 }
    let eighth := studio.modBuffer 0 fun b => { b with concealRun := 7 }
    (other.buffer 0).lastLane = some 4 ∧ (other.buffer 0).copies 100 = [(5, zeroBlock)] ∧
      (before.buffer 0).copies 100 = [] ∧ (101#8 - 100#8 : Byte).toNat = 1 ∧
      1 ≤ (90#8 - 100#8 : Byte).toNat ∧ ¬ (90#8 - 100#8 : Byte).toNat ≤ 7 ∧
      (eighth.buffer 0).copies 100 = [] ∧ (eighth.buffer 0).concealRun = 7 ∧
      (eighth.buffer 0).dropoutReported = false ∧ (4 : LaneNo) ∈ (eighth.port 20).boundLanes ∧
      (eighth.lane 4).state = .live ∧ (∀ k, k ≠ (0 : BufNo) → (eighth.buffer k).running = false) := by
  decide +kernel

theorem witness_ProbeRequestsQueueAndCancel :
    let full := studio.modProbe fun e => { e with queue := List.replicate 16 12 }
    studio.takesCommand = true ∧ 64 ≤ (64#8).toNat ∧ 64#8 ≠ 0xFF#8 ∧
      (20#8).toNat = (20 : PortNo).val ∧ (studio.port 3).cancel = none ∧
      (studio.port 20).cancel = some ⟨6, 1024, some 44, some 3⟩ ∧
      (20 : PortNo) ∉ studio.probe.queue ∧ studio.probe.run = none ∧
      (20 : PortNo) ∈ queued20.probe.queue ∧ queued20.probe.run = none ∧
      16 ≤ full.probe.queue.length ∧ (20 : PortNo) ∉ full.probe.queue ∧ full.probe.run = none ∧
      studio.probe.queue.length < 16 ∧ (probing coarse7).probe.run = some coarse7 ∧
      coarse7.port = 12 ∧ (12 : PortNo) ∉ (probing coarse7).probe.queue := by decide +kernel

theorem witness_ProbeStartsInLockedOrFree :
    let away : State := { queued20 with timing := { lock := .holdover } }
    let isolated := queued20.modPort 44 fun x => { x with isolated := true }
    queued20.resetHeld = false ∧ (probing coarse7).probe.engine ≠ .idle ∧ studio.probe.queue = [] ∧
      away.timing.lock = .holdover ∧ queued20.probe.engine = .idle ∧
      queued20.probe.queue = [20] ∧ queued20.timing.lock = .free ∧
      (queued20.port 20).cancel = some ⟨6, 1024, some 44, some 3⟩ ∧
      (queued20.port 20).isolated = false ∧ (queued20.port 44).isolated = false ∧
      (isolated.port 44).isolated = true := by decide +kernel

theorem witness_ProbeRoundsLockOrEnd :
    let at_ (stage : ProbeStage) (c m : Option Nat) (index seen : Nat) : ProbeRun :=
      { coarse7 with stage := stage, coarse := c, medium := m, index := index, seen := seen }
    let gap (r : ProbeRun) : ProbeRun := { r with phase := .gap, passes := 4112 }
    let settled := studio.modProbe fun e => { e with engine := .settling }
    (∀ r, (probing r).resetHeld = false ∧ (probing r).probe.run = some r) ∧
      coarse7.phase = .marker ∧ coarse7.candidate + 16 ≤ coarse7.passes ∧
      12 ≤ (at_ .coarse none none 7 12).seen ∧ (at_ .medium (some 1791) none 14 12).stage = .medium ∧
      (at_ .fine (some 1791) (some 1759) 3 12).stage = .fine ∧
      (at_ .coarse none none 15 11).seen < 12 ∧ (at_ .coarse none none 15 11).index < 16 ∧
      16 ≤ (at_ .coarse none none 16 11).index ∧ (at_ .medium (some 255) none 16 0).stage ≠ .coarse ∧
      (gap (at_ .coarse none none 7 0)).coarse = none ∧
      (gap (at_ .coarse (some 1791) none 7 16)).coarse = some 1791 ∧
      (gap (at_ .medium (some 1791) none 14 0)).medium = none ∧
      (gap (at_ .medium (some 1791) (some 1759) 14 16)).medium = some 1759 ∧
      (gap (at_ .fine (some 1791) (some 1759) 2 0)).stage = .fine ∧
      4112 ≤ (gap coarse7).passes ∧ settled.probe.engine = .settling ∧ settled.probe.settle = 0 ∧
      studio.probe.engine ≠ .settling := by
  refine ⟨fun r => ⟨rfl, rfl⟩, ?_⟩
  decide +kernel

theorem witness_ArbiterCommandsWaitAndKeySetActs :
    studio.takesCommand = true ∧ 64 ≤ (64#8).toNat ∧ 16 < (List.replicate 17 (0#8)).length ∧
      ¬ ([12, 12] : List Byte).Nodup ∧ (63#8).toNat = (63 : GroupNo).val ∧
      ([12#8, 20#8, 3#8].map BitVec.toNat = [(12 : PortNo), 20, 3].map Fin.val) ∧
      [(12 : PortNo), 20, 3].length ≤ 16 ∧ [(12 : PortNo), 20, 3].Nodup ∧
      committing13.takesCommand = true ∧ committing13.writer.state = .committing ∧
      studio.writer.state ≠ .committing ∧ 16 ≤ (16#8).toNat ∧ 4 ≤ (4#8).toNat ∧
      (15#8).toNat = (15 : HostTalkNo).val ∧ keyFunction? 3 = some .call ∧
      KeyFunction.call ≠ .noFunction ∧ target? 1 63 = some (.group 63) ∧
      (3#8).toNat = (3 : XpClass).val ∧ 2 ≤ (2#8).toNat ∧ 128 ≤ (128#8).toNat ∧
      (127#8).toNat = (127 : TalkId).val ∧ 32 ≤ (32#8).toNat ∧ 3 ≤ (3#8).toNat ∧
      (0#8).toNat = key10.line.val ∧ (4#8).toNat = key10.addr.val ∧ (10#8).toNat = key10.key.val ∧
      keyMode? 2 = some .auto := by decide +kernel

theorem witness_ReadingsChangeNothing :
    studio.takesCommand = true ∧ 64 ≤ (64#8).toNat ∧ (63#8).toNat = (63 : PortNo).val ∧
      2 ≤ (2#8).toNat ∧ (1#8).toNat = (1 : LineNo).val ∧ 16 ≤ (16#8).toNat ∧ 32 ≤ (32#8).toNat ∧
      (0#8).toNat = key10.line.val ∧ (4#8).toNat = key10.addr.val ∧ (10#8).toNat = key10.key.val ∧
      (63#8).toNat = (63 : GroupNo).val ∧ 24 ≤ (24#8).toNat ∧
      (23#8).toNat = (23 : LaneNo).val := by decide +kernel

/-- The four lamps of key 10: its talk OK, its talk OK in part, called, and dark. -/
theorem witness_ReadingsChangeNothing_lamps :
    let part := talking.modArbiter fun a =>
      { a with talks := [{ talk0 with targets := [12, 13], outcomes := some [.ok, .full] }] }
    let called := (talking.modKey key10 fun c =>
      { c with entry := { key10Entry with target := some (.port 20) } }).modArbiter fun a =>
      { a with talks := [] }
    let rung := called.modLane 5 fun x => { x with remoteCall := true }
    talking.lamp key10 = .on ∧ part.lamp key10 = .part ∧ rung.lamp key10 = .call ∧
      called.lamp key10 = .off := by decide +kernel

/-- A TALK-FORCE from a port onto a target, waiting. -/
def forcing (s : State) (n : HostTalkNo) (f : KeyFunction) (source : PortNo) (target : Target) :
    State :=
  inService (s.modArbiter fun a =>
    { a with hostWaiting := some (.talkForce n f source target 1024 2) }) Kind.talkForce

/-- The active talk list is full. -/
def fullList (s : State) : State :=
  s.modArbiter fun a =>
    { a with talks := (List.finRange 128).map fun id => { talk0 with id := id } }

theorem witness_TalkForceBeginsAHostTalk :
    let s := forcing talking 2 .talk 40 (.port 12)
    let called := forcing talking 2 .call 40 (.port 3)
    let hosted := s.modArbiter fun a => { a with talks := [{ talk0 with maker := .host 2 }] }
    s.resetHeld = false ∧ endDone.arbiter.jobInFlight ≠ none ∧ s.arbiter.work = none ∧
      s.arbiter.jobInFlight = none ∧ s.arbiter.pendingEnds = [] ∧
      s.arbiter.hostWaiting = some (.talkForce 2 .talk 40 (.port 12) 1024 2) ∧
      s.control.service = some ⟨9, Kind.talkForce, false⟩ ∧ (s.port 0).cls = .unused ∧
      s.targetPorts (.group 5) = [] ∧ (s.port 40).cls ≠ .unused ∧ s.targetPorts (.port 12) ≠ [] ∧
      (∃ x ∈ hosted.arbiter.talks, x.maker = .host 2) ∧
      (∀ x ∈ s.arbiter.talks, x.maker ≠ .host 2) ∧ 128 ≤ (fullList s).arbiter.talks.length ∧
      (∀ x ∈ (fullList s).arbiter.talks, x.maker ≠ .host 2) ∧ s.arbiter.talks.length < 128 ∧
      (∀ x ∈ s.arbiter.talks, x.id ≠ 1) ∧
      (∀ id : TalkId, (∀ x ∈ s.arbiter.talks, x.id ≠ id) → 1 ≤ id) ∧
      (∀ p ∈ (40 : PortNo) :: s.targetPorts (.port 12), (s.port p).cls ≠ .remote) ∧
      (∀ p ∈ (40 : PortNo) :: called.targetPorts (.port 3), (called.port p).cls ≠ .remote) ∧
      (∀ p ∈ called.targetPorts (.port 3), (called.port p).binding = none) := by decide +kernel

theorem studio_bindings : studio.BindingsSound := by
  unfold State.BindingsSound
  exact ⟨by decide +kernel, by decide +kernel⟩

/-- A call to REMOTE port 20 whose lane 5 dozes: OK, the lane woken, both lanes told the local call. -/
theorem witness_TalkForceCallsARemotePort :
    let s := forcing (talking.modLane 5 fun x => { x with state := .doze }) 2 .call 40 (.port 20)
    let t := after .hostCommandTake s
    talking.BindingsSound ∧ (s.targetPorts (.port 20) = [20] ∧ (s.port 20).cls = .remote ∧
      (s.port 20).boundLanes = [4, 5] ∧ (t.lane 5).state = .waking ∧
      ([4, 5].map fun l => (t.lane l).localCall) = [true, true] ∧
      (t.talk? 1).bind Talk.outcomes = some [.ok]) :=
  ⟨studio_bindings, by decide +kernel⟩

/-- Talk 0 as a CALL to REMOTE port 20, its lanes told, and whether talk 1 calls there too. -/
def calling (two : Bool) : State :=
  let call : Talk :=
    { talk0 with function := .call, target := .port 20, targets := [20], pairs := [] }
  let s := talking.modArbiter fun a =>
    { a with talks := if two then [call, { call with id := 1, maker := .host 1 }] else [call] }
  (s.modLane 4 fun x => { x with localCall := true }).modLane 5 fun x => { x with localCall := true }

theorem witness_CallsEnd :
    let drop (two : Bool) : State := inService ((calling two).modArbiter fun a =>
      { a with hostWaiting := some (.dropTalk 0) }) Kind.talkDrop
    let x := (calling false).talk? 0
    (x.map Talk.phase = some .active ∧ x.map Talk.function = some .call ∧
        x.map Talk.targets = some [20]) ∧
      ¬ ((calling false).arbiter.talks.any fun y => y.id ≠ 0) ∧
      ((calling true).arbiter.talks.any fun y =>
        y.id ≠ 0 ∧ y.phase = .active ∧ y.outcomeOn 20 = some .ok) ∧
      (∀ l ∈ ((calling true).port 20).boundLanes, ((calling true).lane l).localCall = true) ∧
      ((after .hostCommandTake (drop false)).lane 4).localCall = false ∧
      ((after .hostCommandTake (drop true)).lane 4).localCall = true := by decide +kernel

/-- A group edit that adds REMOTE port 20 to a CALL. -/
theorem witness_GroupEditCallsARemotePort :
    let call : Talk := { talk0 with function := .call, target := .group 5, pairs := [] }
    let s := hostDone (talking.modArbiter fun a =>
      { a with groups := a.groups.set 5 [12, 20], talks := [call] })
      { purpose := .groupEdit 5 [12], ops := [] }
    let dozing := s.modLane 4 fun x => { x with state := .dozeHold }
    s.BindingsSound ∧ ((∀ l ∈ (s.port 20).boundLanes, (s.lane l).state ≠ .doze ∧
        (s.lane l).state ≠ .dozeHold) ∧
      s.talk? 0 = some call ∧ call.heldNotices = [] ∧ (20 : PortNo) ∉ call.targets ∧
      call.outcomeOn 12 = some .ok ∧ ((after .writeJobComplete s).lane 4).localCall = true ∧
      ((after .writeJobComplete dozing).lane 4).state = .live) :=
  ⟨studio_bindings, by decide +kernel⟩

theorem talking_talks : talking.TalksSound := by
  unfold State.TalksSound
  decide +kernel

theorem witness_HostEndsTalksAndEditsGroups :
    let drop (w : HostWork) : State :=
      inService (talking.modArbiter fun a => { a with hostWaiting := some w }) Kind.talkDrop
    let grouped := talking.modArbiter fun a =>
      { a with groups := a.groups.set 5 [12, 3], talks := [{ talk0 with target := .group 5 }] }
    let edit (new : List PortNo) : State := grouped.modArbiter fun a =>
      { a with hostWaiting := some (.groupSet 5 new) }
    let edited := hostDone grouped { purpose := .groupEdit 5 [12], ops := [] }
    let pending := talking.modArbiter fun a => { a with pendingEnds := [0] }
    talking.TalksSound ∧
      ((drop (.dropTalk 0)).resetHeld = false ∧
      ((drop (.dropTalk 0)).arbiter.work = none ∧
        (drop (.dropTalk 0)).arbiter.jobInFlight = none ∧
        (drop (.dropTalk 0)).arbiter.pendingEnds = [] ∧
        (drop (.dropTalk 0)).arbiter.hostWaiting = some (.dropTalk 0) ∧
        (drop (.dropTalk 0)).control.service = some ⟨9, Kind.talkDrop, false⟩) ∧
      ((drop (.dropTalk 0)).talk? 0 = some talk0 ∧ talk0.phase = .active ∧
        talk0.function ≠ .call) ∧
      ((drop (.dropHostTalk 3)).arbiter.talks.find? fun x => x.maker = .host 3) = none ∧
      (edit [12, 40]).arbiter.hostWaiting = some (.groupSet 5 [12, 40]) ∧
      (edit []).arbiter.hostWaiting = some (.groupSet 5 []) ∧
      edited.writer.hostPos = some { purpose := .groupEdit 5 [12], ops := [] } ∧
      edited.control.service = some ⟨9, Kind.xpSet, false⟩ ∧ edited.group 5 ≠ [] ∧
      talk0.heldNotices = [] ∧ talking.arbiter.pendingEnds = [] ∧
      pending.arbiter.jobInFlight = none ∧ pending.arbiter.pendingEnds = [talk0.id] ∧
      pending.talk? talk0.id = some talk0) :=
  ⟨talking_talks, by decide +kernel⟩

/-- Key 10 in a state and mode, with a record at the head of line 0's queue. -/
def keying (st : KeyState) (mode : KeyMode) (action : KeyAction) (stamp : BitVec 16) : State :=
  keyed (talking.modKey key10 fun c =>
    { c with state := st, entry := { c.entry with mode := mode } }) ⟨4, 10, action, stamp⟩

theorem witness_KeyRecordsMoveKeysAndEndTalks :
    let s := keying .held .auto .release 3000
    let listening := (keying .latched .auto (.level 255) 0).modArbiter fun a =>
      { a with talks := [{ talk0 with function := .listen }] }
    let clock (n : BitVec 32) : State :=
      { studio.modKey key10 fun c => { c with state := .held, timer := some 0 } with
        timing := { stationTime := n } }
    s.resetHeld = false ∧ endDone.arbiter.jobInFlight ≠ none ∧
      (∀ l, (talking.keyQueue l).records = []) ∧
      (s.arbiter.work = none ∧ s.arbiter.jobInFlight = none ∧ s.arbiter.pendingEnds = [] ∧
        s.arbiter.hostWaiting = none) ∧
      (s.keyQueue 0).records = [⟨4, 10, .release, 3000⟩] ∧
      (∀ m, m ≠ (0 : LineNo) → (s.keyQueue m).records ≠ [] →
        s.arbiter.lastLine = some m ∨ (s.arbiter.lastLine = none ∧ (0 : LineNo) = 0)) ∧
      (s.keyTalk? key10 = some talk0 ∧ s.talk? talk0.id = some talk0 ∧ talk0.phase = .active ∧
        talk0.function ≠ .call) ∧
      ((keying .latched .auto .press 0).key key10).state = .latched ∧
      ((keying .held .auto .press 0).key key10).state = .held ∧
      ((keying .held .latching .release 0).key key10).entry.mode ≠ .auto ∧
      (s.key key10).pressStamp = some 60000 ∧ (3000#16 - 60000#16).toNat < 14400 ∧
      (s.key key10).longMark = false ∧ 14400 ≤ (9000#16 - 60000#16).toNat ∧
      ((s.modKey key10 fun c => { c with pressStamp := none }).key key10).pressStamp = none ∧
      ((keying .latched .momentary .release 0).key key10).entry.mode = .momentary ∧
      ((keying .clearing .auto .release 0).key key10).state = .clearing ∧
      ((keying .idle .auto .release 0).key key10).state = .idle ∧
      (listening.keyTalk? key10).map Talk.function = some .listen ∧
      ((clock 65536).key key10).timer = some 0 ∧
      65536 ≤ ((clock 65536).timing.stationTime - 0).toNat ∧
      ((clock 65535).timing.stationTime - 0).toNat < 65536 := by decide +kernel

/-- A press of key 10 with an entry, the key IDLE and no talk standing. -/
def pressing (s : State) (e : KeyEntry) : State :=
  keyed (s.modKey key10 fun c => { c with entry := e }) ⟨4, 10, .press, 60000⟩

theorem witness_KeyPressBeginsATalk :
    let s := pressing studio key10Entry
    let unbound := pressing (studio.modPort 3 fun x => { x with panel := none }) key10Entry
    let empty := pressing studio { key10Entry with target := some (.group 5) }
    let call := pressing (studio.modPort 4 fun _ => ofClass .panel)
      { key10Entry with function := .call, target := some (.port 4) }
    s.resetHeld = false ∧ s.arbiter.work = none ∧ s.arbiter.jobInFlight = none ∧
      s.arbiter.pendingEnds = [] ∧ s.arbiter.hostWaiting = none ∧
      (s.keyQueue 0).records = [⟨4, 10, .press, 60000⟩] ∧
      (∀ m, m ≠ (0 : LineNo) → (s.keyQueue m).records = []) ∧ (s.key key10).state = .idle ∧
      ((pressing studio {}).key key10).entry.function = .noFunction ∧
      (s.key key10).entry.function ≠ .noFunction ∧
      (s.key key10).entry.target = some (.port 12) ∧ unbound.panelPort? 0 4 = none ∧
      s.panelPort? 0 4 = some 3 ∧ empty.targetPorts (.group 5) = [] ∧
      s.targetPorts (.port 12) ≠ [] ∧ 128 ≤ (fullList s).arbiter.talks.length ∧
      s.arbiter.talks.length < 128 ∧ (∀ x ∈ s.arbiter.talks, x.id ≠ 0) ∧
      (∀ id : TalkId, (∀ x ∈ s.arbiter.talks, x.id ≠ id) → 0 ≤ id) ∧
      (∀ p ∈ (3 : PortNo) :: s.targetPorts (.port 12), (s.port p).cls ≠ .remote) ∧
      (call.key key10).entry.function = .call ∧
      (∀ p ∈ (3 : PortNo) :: call.targetPorts (.port 4), (call.port p).cls ≠ .remote) ∧
      (∀ p ∈ call.targetPorts (.port 4), (call.port p).binding = none) := by decide +kernel

/-- A press of key 10 that calls REMOTE port 20. -/
theorem witness_KeyPressCallsARemotePort :
    let s := pressing studio { key10Entry with function := .call, target := some (.port 20) }
    s.BindingsSound ∧ ((s.port 20).cls = .remote ∧
      ([4, 5].map fun l => ((after .keyRecordTake s).lane l).localCall) = [true, true]) :=
  ⟨studio_bindings, by decide +kernel⟩

theorem witness_PollsAndAnswersRunAPanelLine :
    let s := polled talking
    let between := s.modLine 0 fun pl => { pl with inProgress := none }
    let removed := s.modLine 0 fun pl =>
      { pl with inProgress := some { addr := 4, removed := true } }
    let absent := s.modPanel 0 4 fun x => { x with present := false }
    let fourth := s.modPanel 0 4 fun x => { x with missRun := 3 }
    let full := s.modKeyQueue 0 fun q => { q with bytesUsed := 253 }
    let f : KeyFrame := ⟨11, .release, false⟩
    talking.TalksSound ∧
      (s.resetHeld = false ∧ (s.line 0).inProgress ≠ none ∧ (talking.line 0).pollList = 0 ∧
        (between.line 0).inProgress = none ∧ (between.line 0).pollList.getLsbD 4 = true ∧
        (between.line 0).lastPolled = some 4 ∧
        (∀ b : PanelAddr, (between.line 0).pollList.getLsbD b.val = true → 4 ≤ b) ∧
        (removed.line 0).inProgress = some { addr := 4, removed := true } ∧
        (s.line 0).inProgress = some { addr := 4, removed := false } ∧
        parseAnswer (answerBytes 5 0 0 []) = some ⟨5, 0, []⟩ ∧ (5#8).toNat ≠ (4 : PanelAddr).val ∧
        parseAnswer [0x02, 4] = none ∧
        (absent.panel 0 4).present = false ∧ (s.panel 0 4).present = true ∧
        (s.panel 0 4).missRun < 3 ∧ 3 ≤ (fourth.panel 0 4).missRun ∧
        (s.keyQueue 0).headInService = false ∧ talk0.maker = .key ⟨0, 4, 10⟩ ∧
        parseAnswer (answerBytes 4 0 0 []) = some ⟨4, 0, []⟩ ∧
        parseAnswer (answerBytes 4 0 1 [0x5C]) = some ⟨4, 0, [f]⟩ ∧
        (4#8).toNat = (4 : PanelAddr).val ∧ (s.line 0).passes 4 f = true ∧
        ((s.modLine 0 fun pl => { pl with singleMask := 0 }).line 0).passes 4 f = false ∧
        KeyRecord.size ⟨4, 11, .release, 0⟩ ≤ 256 - (s.keyQueue 0).bytesUsed ∧
        256 - (full.keyQueue 0).bytesUsed < KeyRecord.size ⟨4, 11, .release, 0⟩ ∧
        (∀ r ∈ (s.keyQueue 0).records, r.addr ≠ 4)) :=
  ⟨talking_talks, by decide +kernel⟩

/-- An answer with three key frames, the last without room; an answer that ends a held key's talk; a panel that
goes with its head record in service. -/
theorem witness_AnswersEchoAndPurge :
    let s := polled talking
    let room := s.modKeyQueue 0 fun q =>
      q.withRecords (List.replicate 62 ⟨5, 0, .press, 0⟩)
    let t := after (.answer 0 (answerBytes 4 1 3 [0x5C, 0x4A, 0x02])) room
    let held := s.modKey key10 fun c => { c with state := .held }
    let u := after (.answer 0 (answerBytes 4 0 0 [])) held
    let fourth := (s.modPanel 0 4 fun x => { x with missRun := 3 }).modKeyQueue 0 fun q =>
      { q.withRecords [⟨4, 1, .press, 0⟩, ⟨5, 0, .press, 0⟩, ⟨4, 2, .press, 0⟩] with
        headInService := true }
    let v := after (.answerWindowExpiry 0) fourth
    (polled talking).TalksSound ∧ ((t.keyQueue 0).count = 64 ∧ (t.keyQueue 0).overrun = true ∧
        t.unsentReports.map QueuedReport.report = [.keyOverrun 0 0]) ∧
      ((held.key key10).state = .held ∧ (∀ r ∈ (u.keyQueue 0).records, r.addr ≠ 4) ∧
        u.arbiter.pendingEnds = [0] ∧
        u.arbiter.talks.map (fun x => (x.phase, x.endReason)) = [(.ending, some .echo)]) ∧
      (v.keyQueue 0).records = [⟨4, 1, .press, 0⟩, ⟨5, 0, .press, 0⟩] :=
  ⟨talking_talks, by decide +kernel⟩

theorem witness_PanelLineCommands :
    let dual := base.modLine 1 fun pl => { pl with filterMode := .dual }
    studio.takesCommand = true ∧ (base.line 1).filterMode = .single ∧
      (dual.line 1).filterMode = .dual ∧ 2 ≤ (2#8).toNat ∧ (1#8).toNat = (1 : LineNo).val ∧
      16 ≤ (16#8).toNat ∧ (15#8).toNat = (15 : PanelAddr).val ∧
      (polled studio).takesCommand = true ∧
      ((polled studio).line 0).pollList.getLsbD 4 = true ∧ (0x0020#16).getLsbD 4 = false ∧
      ((polled studio).keyQueue 0).headInService = false := by decide +kernel

/-- Lane frames of the tests: a word in a frame without audio. -/
def short (seq : Byte) (word : BitVec 16) : List Byte := LaneFrame.wire ⟨seq, word, []⟩

theorem witness_LaneFramesAreReceived :
    let seek := studio.modLane 4 fun x =>
      { x with state := .seek, role := none, unitHeld := none, lastSeq := none }
    let word : BitVec 16 := 0xB6C9
    studio.resetHeld = false ∧ (studio.lane 0).state = .off ∧ (studio.lane 4).state ≠ .off ∧
      (studio.lane 4).state ≠ .barred ∧ (studio.lane 4).role ≠ some .follow ∧
      (studio.lane 4).state ≠ .doze ∧ (studio.lane 4).silentCount < 31 ∧
      receiveLaneFrame [0, 0, 0, 0, 1] = .failed (some 1) ∧ (1 : BitVec 16) ≠ 0 ∧
      receiveLaneFrame [0] = .failed none ∧ receiveLaneFrame [0, 0, 0, 0] = .failed (some 0) ∧
      receiveLaneFrame (short 99 word) = .good 99 (.offer ⟨{}, .either, 201⟩ true) .short ∧
      (studio.lane 4).lastSeq = some 99 ∧ (99#8 - 99#8).toNat = 0 ∧
      129 ≤ (98#8 - 99#8).toNat ∧ 1 ≤ (227#8 - 99#8).toNat ∧ (227#8 - 99#8).toNat ≤ 128 ∧
      (seek.lane 4).state = .seek ∧ (seek.lane 4).lastSeq = none ∧ (seek.lane 4).unitHeld = none ∧
      (offering.lane 4).state = .offer ∧ (offering.lane 4).role = none ∧
      receiveLaneFrame (short 7 0xC000) = .good 7 (.run false false false false) .short ∧
      receiveLaneFrame (short 7 0x8C00) = .good 7 .unused .short := by decide +kernel

/-- Lane 4 led by the remote, in PAGES and LIVE: a frame received, a frame failed and a silence expiry each send
one frame; the 32nd failed frame loses the lane. -/
theorem witness_FollowedLanesSendAndAreLost :
    let lane (f : Lane → Lane) : State := studio.modLane 4 fun x => f { x with role := some .follow }
    let live := lane id
    let pages := lane fun x => { x with state := .pages }
    let silent := lane fun x => { x with silenceTimer := some 0 }
    let last := lane fun x => { x with silentCount := 31 }
    let sent (i : Instr) (s : State) : Byte := ((after i s).lane 4).txSeq
    (live.lane 4).role = some .follow ∧ (live.lane 4).state = .live ∧ (pages.lane 4).state = .pages ∧
      sent (.laneFrameReceived 4 (short 100 0xC000)) live = 1 ∧
      sent (.laneFrameReceived 4 [0, 0, 0, 0, 1]) live = 1 ∧ sent (.silenceExpiry 4) silent = 1 ∧
      31 ≤ (last.lane 4).silentCount ∧
      ((after (.laneFrameReceived 4 [0, 0, 0, 0, 1]) last).lane 4).state = .seek ∧
      sent (.laneFrameReceived 4 [0, 0, 0, 0, 1]) last = 0 := by decide +kernel

theorem witness_HandshakeLeadsToLive :
    let o : Offer := ⟨{}, .either, 201⟩
    let lane (f : Lane → Lane) : State := offering.modLane 4 f
    let ending := paging.modLane 4 fun x =>
      { x with pagesAccepted := some .id3, pageSent := .endPage, profile := some .robust }
    offering.resetHeld = false ∧
      receiveLaneFrame (short 7 0xB6C9) = .good 7 (.offer o true) .short ∧
      receiveLaneFrame (short 7 0xB4C9) = .good 7 (.offer o false) .short ∧
      (offering.lane 4).lastSeq = some 6 ∧ (7#8 - 6#8).toNat = 1 ∧ (offering.lane 4).role = none ∧
      (offering.lane 4).consecutiveErrors < 2 ∧ (offering.lane 4).state = .offer ∧
      2 ≤ ((lane fun x => { x with consecutiveErrors := 2 }).lane 4).consecutiveErrors ∧
      ((lane fun x => { x with tiedOffer := some o }).lane 4).tiedOffer = some o ∧
      (offering.lane 4).tiedOffer ≠ some o ∧ (offering.lane 4).matchedOffer = some o ∧
      ((lane fun x => { x with matchedOffer := none }).lane 4).matchedOffer ≠ some o ∧
      2 ≤ (offering.lane 4).matchCount ∧
      ((lane fun x => { x with matchCount := 1 }).lane 4).matchCount < 2 ∧
      resolveRole ⟨{}, .lead, 76⟩ o = .role .lead ∧ resolveRole ⟨{}, .either, 76⟩ o = .role .follow ∧
      resolveRole ⟨⟨true, false⟩, .lead, 76⟩ ⟨⟨false, true⟩, .either, 201⟩ = .noProfile ∧
      resolveRole ⟨{}, .lead, 76⟩ ⟨{}, .lead, 201⟩ = .roleFault ∧
      resolveRole ⟨{}, .either, 201⟩ o = .tie ∧
      4 ≤ ((lane fun x => { x with attempts := 4 }).lane 4).attempts ∧
      (offering.lane 4).attempts < 4 ∧ (paging.lane 4).state = .pages ∧
      (paging.lane 4).role = some .lead ∧
      receiveLaneFrame (short 7 (pageWord .id3 true true 42)) =
        .good 7 (.page (pageCodeBits .id3) true true 42) .short ∧
      (true ≠ (paging.lane 4).lastToggle) ∧ nextPage? (paging.lane 4).pagesAccepted = some .id3 ∧
      nextPage? (paging.lane 4).pagesAccepted ≠ some .id0 ∧
      (paging.lane 4).pagesAccepted ≠ some .id1 ∧
      nextPage? (Lane.pagesAccepted {}) = some .id0 ∧ (paging.lane 4).boundPort = some 20 ∧
      paging.identityMismatch 4 20 (joinParts ([712, 5, 1000] ++ [42])) = false ∧
      paging.identityMismatch 4 20 (joinParts ([712, 5, 1000] ++ [43])) = true ∧
      (∃ e ∈ paging.units, e.identity = joinParts ([712, 5, 1000] ++ [42])) ∧
      nextPage? (ending.lane 4).pagesAccepted = some .endPage ∧
      (ending.lane 4).pageSent = .endPage ∧ true = (ending.lane 4).ownToggle ∧
      (ending.lane 4).profile.map profilePayload = some 2 ∧
      (ending.lane 4).profile.map profilePayload ≠ some 1 := by decide +kernel

/-- A frame with one block of zeros. -/
def oneBlock (seq : Byte) (word : BitVec 16) : List Byte := LaneFrame.wire ⟨seq, word, [zeroBlock]⟩

set_option maxRecDepth 20000 in
theorem test_frame_with_audio :
    receiveLaneFrame (oneBlock 100 0xC000) =
      .good 100 (.run false false false false) (.one zeroBlock) := by decide +kernel

set_option maxRecDepth 20000 in
theorem test_frame_with_call :
    receiveLaneFrame (oneBlock 100 0xE000) =
      .good 100 (.run true false false false) (.one zeroBlock) := by decide +kernel

theorem witness_RunFramesPlayDozeAndWake :
    let run (st : LaneState) : State := studio.modLane 4 fun x => { x with state := st }
    studio.resetHeld = false ∧
      receiveLaneFrame (short 100 0xD000) = .good 100 (.run false true false false) .short ∧
      (studio.lane 4).lastSeq = some 99 ∧ (100#8 - 99#8).toNat = 1 ∧
      (studio.lane 4).role = some .lead ∧ studio.keepsAwake 4 = false ∧
      (studio.lane 4).profile = some .tight ∧ (studio.lane 4).state = .live ∧
      (studio.lane 4).boundPort = some 20 ∧ (4 : LaneNo) ∈ (studio.port 20).boundLanes ∧
      studio.portRemoteCall 20 = false ∧
      ((run .live).modLane 4 fun x => { x with profile := some .robust }).lane 4 =
        { liveLane with profile := some .robust } ∧
      (studio.port 20).binding.map LaneBinding.buffer = some 0 ∧
      (studio.buffer 0).running = true ∧ (studio.buffer 0).position = some 100 ∧
      (107#8 - 100#8).toNat ≤ 7 ∧ (∀ y ∈ (studio.buffer 0).copies 107, y.1 ≠ 4) ∧
      8 ≤ (108#8 - 100#8).toNat ∧ (227#8 - 100#8).toNat ≤ 127 ∧
      128 ≤ ((100#8 : Byte) - 228#8).toNat ∧ (100#8 - 99#8).toNat ≤ 128 ∧
      ((run .dozeHold).modLane 4 fun x => { x with dozeRun := 498 }).lane 4 =
        { liveLane with state := .dozeHold, dozeRun := 498 } ∧
      499 ≤ (({ liveLane with dozeRun := 499 } : Lane)).dozeRun ∧
      ((run .waking).lane 4).state = .waking ∧ ((run .doze).lane 4).state = .doze ∧
      ((run .doze).lane 4).keepAliveCallRun = 0 ∧
      1 ≤ (({ liveLane with keepAliveCallRun := 1 } : Lane)).keepAliveCallRun ∧
      receiveLaneFrame (short 100 0xF000) = .good 100 (.run true true false false) .short := by
  decide +kernel

/-- A frame with a block of zeros and its repeat. -/
def twoBlocks (seq : Byte) : List Byte := LaneFrame.wire ⟨seq, 0xC000, [zeroBlock, zeroBlock]⟩

set_option maxRecDepth 20000 in
theorem test_frame_with_repeat :
    receiveLaneFrame (twoBlocks 100) =
      .good 100 (.run false false false false) (.two zeroBlock zeroBlock) := by decide +kernel

/-- A stopped buffer, and a ROBUST lane at the edges of its buffer's window. -/
theorem witness_RunFramesStartAndRepeat :
    let stopped := studio.modBuffer 0 fun _ => { owner := some 20 }
    let at' (q : Byte) : State := studio.modBuffer 0 fun b => { b with position := some q }
    let diff (q : Byte) : Nat := (100#8 - q).toNat
    (stopped.buffer 0).running = false ∧ (stopped.buffer 0).slots = Table.replicate 8 none ∧
      (studio.port 20).binding.map LaneBinding.depth = some 3 ∧
      ((at' 93).buffer 0).position = some 93 ∧ diff 93 = 7 ∧ diff 98 = 2 ∧ diff 99 = 1 ∧
      diff 92 = 8 ∧ diff 229 = 127 ∧ diff 228 = 128 ∧ diff 227 = 129 ∧ diff 226 = 130 ∧
      (∀ y ∈ ((at' 93).buffer 0).copies 100, y.1 ≠ 4) ∧
      (∃ y ∈ (((at' 93).modBuffer 0 fun b => b.store 4 98 zeroBlock).buffer 0).copies 98,
        y.1 = 4) := by decide +kernel

theorem witness_LaneExpiries :
    let lane (f : Lane → Lane) : State := studio.modLane 4 f
    let silent (n : Nat) : State := lane fun x =>
      { x with silenceTimer := some 0, silentCount := n }
    studio.resetHeld = false ∧ (studio.lane 4).silenceTimer ≠ some 0 ∧
      ((silent 30).lane 4).silenceTimer = some 0 ∧ ((silent 30).lane 4).role ≠ some .follow ∧
      ((silent 30).lane 4).state = .live ∧ ((silent 30).lane 4).silentCount < 31 ∧
      31 ≤ ((silent 31).lane 4).silentCount ∧
      ((lane fun x => { x with state := .doze, silenceTimer := some 0, silentCount := 2 }).lane
        4).silentCount < 3 ∧
      ¬ (((studio.lane 4).state = .offer ∨ (studio.lane 4).state = .pages) ∧
        250 ≤ (studio.lane 4).progress) ∧
      250 ≤ ((lane fun x => { x with state := .pages, progress := 250 }).lane 4).progress ∧
      ((lane fun x => { x with state := .pages, progress := 250 }).lane 4).consecutiveErrors < 2 ∧
      2 ≤ ((lane fun x =>
        { x with state := .offer, progress := 250, consecutiveErrors := 2 }).lane
          4).consecutiveErrors ∧
      2000 ≤ ((lane fun x => { x with state := .waking, wakeCount := 2000 }).lane 4).wakeCount ∧
      ¬ ((studio.lane 4).state = .waking ∧ 2000 ≤ (studio.lane 4).wakeCount) ∧
      ¬ ((studio.lane 4).state = .barred ∧ (studio.lane 4).barredCount = 0) ∧
      ((lane fun x => { x with state := .barred, unitHeld := none }).lane 4).barredCount = 0 := by
  decide +kernel

theorem witness_LaneCommands :
    let lane (f : Lane → Lane) : State := studio.modLane 4 f
    studio.takesCommand = true ∧ 24 ≤ (24#8).toNat ∧ (4#8).toNat = (4 : LaneNo).val ∧
      2 ≤ (2#8).toNat ∧ 3 ≤ (3#8).toNat ∧ onOff? 1 = some true ∧ onOff? 0 = some false ∧
      rolePref? 2 = some .follow ∧ true = (studio.lane 4).enable ∧
      (studio.lane 0).boundPort = none ∧ (studio.lane 0).state = .off ∧
      ((lane fun x => { x with state := .off, enable := false }).lane 4).enable = false ∧
      ((lane fun x => { x with state := .off, enable := false }).lane 4).boundPort ≠ none ∧
      (studio.lane 4).state ≠ .off ∧ 4 ≤ (4#8).toNat ∧ 3#8 ≠ 0 ∧ (3#8).toNat < 4 ∧
      ((lane fun x => { x with state := .doze }).lane 4).state = .doze ∧
      (studio.lane 4).state ≠ .doze := by decide +kernel

theorem witness_SweepClassifiesSwapsAndGuards :
    let elapsed (s : State) : Nat := (s.timing.stationTime - s.health.sweepStart).toNat
    let record (errors clean : Nat) : State := sweeping.modHealthRec 4 fun h =>
      { h with errors := errors, cleanRun := clean }
    studio.resetHeld = false ∧ elapsed studio < studio.health.settings.interval * 48000 ∧
      sweeping.health.settings.interval * 48000 ≤ elapsed sweeping ∧
      (sweeping.lane 0).boundPort = none ∧ (sweeping.lane 4).boundPort ≠ none ∧
      (sweeping.healthRec 5).errors = 0 ∧ (sweeping.healthRec 5).framesAccepted = true ∧
      ((sweeping.modHealthRec 5 fun _ => {}).healthRec 5).framesAccepted = false ∧
      ((record 9 0).healthRec 4).errors ≠ 0 ∧
      ((record 9 0).healthRec 4).errors < sweeping.health.settings.threshold ∧
      sweeping.health.settings.threshold ≤ ((record 10 0).healthRec 4).errors ∧
      (sweeping.port 20).cls = .remote ∧ (sweeping.port 20).binding ≠ none ∧
      (∃ e ∈ sweeping.units, e.connected = true ∧ (4 : LaneNo) ∈ sweeping.lanesOf e.identity) ∧
      1 < (({ identity := 1, connected := false, retentionLeft := some 2 } : UnitEntry).retentionLeft.getD
        0) := by decide +kernel

/-- What the sweep's clauses on units and reports start from: a good sweep of a unit under caution, one that
turns a lane HARD, a unit about to be forgotten. -/
theorem witness_SweepUpdatesUnitsAndReports :
    let good : State := (sweeping.modHealthRec 4 fun h => { h with errors := 0 })
    let units (s : State) : State :=
      { s with units := s.units.map (fun e => { e with goodRun := 19 }) ++
          [{ identity := 1, connected := false, retentionLeft := some 1 }] }
    let t := after .sweepExpiry (units good)
    let u := after .sweepExpiry (units sweeping)
    sweeping.control.tx = none ∧ sweeping.reports.queue.length + 3 ≤ 64 ∧
      sweeping.lanesOf 764510445610 = [4, 5] ∧ (∀ l ∈ [4, 5], (good.healthRec l).errors = 0) ∧
      t.units.map (fun e => (e.goodRun, e.caution, e.lastClass)) = [(20, false, .good)] ∧
      u.units.map (fun e => (e.goodRun, e.caution, e.lastClass)) = [(0, true, .hard)] ∧
      u.unsentReports.map QueuedReport.report =
        [.laneClass 4 20 .good .hard ⟨14, 20, 60⟩, .pathSwap 20 4 5, .unitForgotten 1 .expired] := by
  decide +kernel

theorem witness_HealthSettingsAndGuards :
    let guarded := studio.setGuard 20 true
    (studio.takesCommand = true ∧ guarded.takesCommand = true ∧ guarded.CrosspointsSound) ∧
      (2 ≤ (2#8).toNat ∧ onOff? 1 = some true ∧ 64 ≤ (64#8).toNat ∧
        (20#8).toNat = (20 : PortNo).val ∧ (studio.port 12).cls ≠ .remote ∧
        (studio.port 20).cls = .remote ∧
        (studio.port 20).binding.map LaneBinding.guarded = some false ∧
        (guarded.port 20).binding.map LaneBinding.guarded = some true) :=
  ⟨⟨by decide +kernel, by decide +kernel, base_crosspoints⟩, by decide +kernel⟩

/-- The studio with a talk standing meets every invariant, and has a next state. -/
theorem witness_EveryStepKeeps :
    (talking.CrosspointsSound ∧ talking.TalksSound ∧ talking.CancelSound) ∧ talking.UnitsSound ∧
      talking.KeyQueuesSound ∧ talking.ReportsBounded ∧ talking.FifoBounded ∧
      talking.timing.Sound ∧ talking.BindingsSound ∧ talking.TalkJobSound := by
  refine ⟨⟨talking_crosspoints, talking_talks, studio_cancel⟩, ?_, ?_, ?_, ?_, ?_,
    studio_bindings, nofun⟩
  · unfold State.UnitsSound
    decide +kernel
  · unfold State.KeyQueuesSound KeyQueue.Sound
    decide +kernel
  · unfold State.ReportsBounded
    decide +kernel
  · unfold State.FifoBounded
    decide +kernel
  · exact ⟨rfl, rfl, rfl⟩

theorem witness_EveryStepKeepsTheDucks : studio.DucksSound := by
  unfold State.DucksSound Duck.Sound
  intro p
  refine ⟨?_, ?_, ?_⟩
  · revert p; decide +kernel
  · unfold DuckProfile.Sound; revert p; decide +kernel
  · have h : ∀ p, (studio.port p).pendingProfile = none := by decide +kernel
    intro q hq
    rw [h p] at hq
    cases hq

theorem witness_a_step_from_the_invariants :
    step { talking with pending := [.clockGet 9] } =
      .next (after (.clockGet 9) talking) := rfl

end Sys2Proof.Tests
end

