-- ==== Sys2Proof/Proofs/Ports.lean ====
section
/-! PROOFS. PORT-SET LEVELS and PORT-GET (R14, R17, R26, R179), over the facts of every command that
is answered in the step that takes it: how its port number and quantities are read, and that the reply
completes it. -/

namespace Sys2Proof.Machine

/-! ## Operands -/

theorem number?_eq_some {n : Nat} {b : Byte} {i : Fin n} (h : b.toNat = i.val) :
    number? n b = some i := by
  have hlt : b.toNat < n := h ▸ i.isLt
  simp [number?, h]

theorem number?_eq_none {n : Nat} {b : Byte} (h : n ≤ b.toNat) : number? n b = none :=
  dif_neg h.not_gt

theorem clampTo_zero (hi v : Nat) : clampTo 0 hi v = min hi v := Nat.zero_max _

theorem inRange_zero (hi v : Nat) : inRange 0 hi v = decide (v ≤ hi) := by simp [inRange]

/-- The code of two quantities clamped to `0..hi` (R14, R179). -/
theorem okOr_inRange_zero (hi v w : Nat) :
    okOr (!(inRange 0 hi v && inRange 0 hi w)) = if v ≤ hi ∧ w ≤ hi then .ok else .clamped := by
  rw [inRange_zero, inRange_zero]
  by_cases h : v ≤ hi ∧ w ≤ hi
  · simp [okOr, h]
  · rw [if_neg h, ← Bool.decide_and, decide_eq_false h]
    rfl

/-! ## A command answered at once -/

namespace State

/-- What waits to be sent is read off the control line and the Report Queue alone. -/
theorem Answers.of_same_lines {s c t : State} {tag kind : Byte} {code : ResultCode}
    {fields : ReplyFields} (hcontrol : c.control = s.control) (hreports : c.reports = s.reports)
    (h : c.Answers t tag kind code fields) : s.Answers t tag kind code fields := by
  simpa only [Answers, FormsReplies, QueuesNoReport, unsentReplies, unsentReports, hcontrol,
    hreports] using h

theorem startTransmitter_modPort (s : State) (p : PortNo) (f : Port → Port) :
    s.startTransmitter.modPort p f = (s.modPort p f).startTransmitter := by
  unfold startTransmitter
  rw [modPort_control, modPort_reports]
  split
  · rfl
  · split <;> rfl

/-- Forming a reply neither reads nor writes a port's record. -/
theorem reply_modPort (s : State) (tag kind : Byte) (code : ResultCode) (fields : ReplyFields)
    (p : PortNo) (f : Port → Port) :
    (s.reply tag kind code fields).modPort p f = (s.modPort p f).reply tag kind code fields :=
  startTransmitter_modPort _ p f

end State

/-- A command that changes `s` to `c`, apart from the control line and the Report Queue, and is
answered in the same step completes as `c`. -/
theorem completes_of_reply {i : Instr} {s c : State} {tag kind : Byte} {code : ResultCode}
    {fields : ReplyFields} (hexec : exec i s = .next (c.reply tag kind code fields))
    (hcontrol : c.control = s.control) (hreports : c.reports = s.reports) :
    Completes i s c tag kind code fields :=
  ⟨_, hexec, (c.reply_answers tag kind code fields).of_same_lines hcontrol hreports,
    c.reply_isBut tag kind code fields⟩

/-! ## PORT-SET LEVELS (R17) -/

section
variable {s : State} (htake : s.takesCommand = true) (tag : Byte) {port : Byte}
include htake

theorem exec_portSetLevels_of_outOfRange (trim master : Half) (hport : 64 ≤ port.toNat) :
    exec (.portSetLevels tag port trim master) s = .next (s.reply tag Kind.portSet .badArg) := by
  change execPortSetLevels tag port trim master s = _
  rw [execPortSetLevels, onCommand_eq s _ htake, number?_eq_none hport]
  rfl

theorem exec_portSetLevels_of_port (trim master : Half) {p : PortNo} (hport : port.toNat = p.val) :
    exec (.portSetLevels tag port trim master) s =
      .next ((s.modPort p fun x =>
          { x with trim := min 4095 trim.toNat, master := min 4095 master.toNat }).reply
        tag Kind.portSet (if trim.toNat ≤ 4095 ∧ master.toNat ≤ 4095 then .ok else .clamped)) := by
  change execPortSetLevels tag port trim master s = _
  rw [execPortSetLevels, onCommand_eq s _ htake, number?_eq_some hport]
  simp only [State.portSetReply, clampTo_zero, okOr_inRange_zero]

/-! ## PORT-GET (R26) -/

theorem exec_portGet_of_outOfRange (hport : 64 ≤ port.toNat) :
    exec (.portGet tag port) s = .next (s.reply tag Kind.portGet .badArg) := by
  change execPortGet tag port s = _
  rw [execPortGet, onCommand_eq s _ htake, number?_eq_none hport]

/-- The reply carries the record as it was before the clip fields are cleared. -/
theorem exec_portGet_of_port {p : PortNo} (hport : port.toNat = p.val) :
    exec (.portGet tag port) s =
      .next ((s.modPort p fun x => { x with clipLatch := false, clipCount := 0 }).reply
        tag Kind.portGet .ok (.port (s.port p))) := by
  change execPortGet tag port s = _
  rw [execPortGet, onCommand_eq s _ htake, number?_eq_some hport]
  simp only [State.reply_modPort]

end

/-- Settles O16: by the port number's range, each command's next state is the stated record with one
reply formed, which completes it. -/
theorem levelsAreClampedAndRead : Obligations.LevelsAreClampedAndRead := by
  intro tag port trim master s htake
  constructor
  · intro hport
    exact ⟨completes_of_reply (exec_portSetLevels_of_outOfRange htake tag trim master hport) rfl rfl,
      completes_of_reply (exec_portGet_of_outOfRange htake tag hport) rfl rfl⟩
  · intro p hport
    exact ⟨completes_of_reply (exec_portSetLevels_of_port htake tag trim master hport) rfl rfl,
      completes_of_reply (exec_portGet_of_port htake tag hport) rfl rfl⟩

end Sys2Proof.Machine
end

section
/-! PROOFS. SCENE-BEGIN, SCENE-ABANDON and SCENE-ENTRY (R48, R49): what `stage` makes of a staging
area and one entry, what each command's next state is, and that its reply completes it. -/

namespace Sys2Proof.Machine

/-! ## Operands and the commit in flight -/

/-- The code of one quantity clamped to `0..hi` (R14, R179). -/
theorem okOr_not_inRange_zero (hi v : Nat) :
    okOr (!inRange 0 hi v) = if v ≤ hi then .ok else .clamped := by
  rw [inRange_zero]
  by_cases h : v ≤ hi <;> simp [okOr, h]

theorem State.committing_iff (s : State) :
    s.committing = true ↔ s.writer.state = .committing := by
  simp [State.committing]

/-! ## One entry into the staging area (R49) -/

section
variable {list : List Staged} {e : Staged}

theorem stage_of_pair_staged (h : ∃ x ∈ list, x.src = e.src ∧ x.dst = e.dst) :
    stage list e =
      some (list.map fun x => if x.src = e.src ∧ x.dst = e.dst then e else x) :=
  if_pos (by simpa using h)

theorem stage_of_pair_new (h : ∀ x ∈ list, ¬ (x.src = e.src ∧ x.dst = e.dst)) :
    stage list e = if 512 ≤ list.length then none else some (list ++ [e]) :=
  if_neg (by simpa using h)

end

/-! ## The commands' next states -/

/-- The state with another staging area. -/
abbrev State.withStaging (s : State) (list : List Staged) : State :=
  s.modWriter fun w => { w with staging := list }

theorem completes_withStaging {i : Instr} {s : State} {list : List Staged} {tag kind : Byte}
    {code : ResultCode} (hexec : exec i s = .next ((s.withStaging list).reply tag kind code)) :
    Completes i s (s.withStaging list) tag kind code :=
  completes_of_reply hexec rfl rfl

theorem emptyStaging_of_committing {s : State} (tag kind : Byte)
    (h : s.writer.state = .committing) : emptyStaging tag kind s = s.reply tag kind .busy :=
  if_pos (s.committing_iff.mpr h)

theorem emptyStaging_of_not_committing {s : State} (tag kind : Byte)
    (h : s.writer.state ≠ .committing) :
    emptyStaging tag kind s = (s.withStaging []).reply tag kind .ok :=
  if_neg (mt s.committing_iff.mp h)

section
variable {s : State} (htake : s.takesCommand = true) (tag : Byte)
include htake

theorem exec_sceneBegin :
    exec (.sceneBegin tag) s = .next (emptyStaging tag Kind.sceneBegin s) :=
  onCommand_eq s _ htake

theorem exec_sceneAbandon :
    exec (.sceneAbandon tag) s = .next (emptyStaging tag Kind.sceneAbandon s) :=
  onCommand_eq s _ htake

variable {src dst : Byte} (level : Half) {cls : Byte}

/-- An argument out of range is refused before the writer is looked at. -/
theorem exec_sceneEntry_of_outOfRange
    (h : 64 ≤ src.toNat ∨ 64 ≤ dst.toNat ∨ 4 ≤ cls.toNat) :
    exec (.sceneEntry tag src dst level cls) s =
      .next (s.reply tag Kind.sceneEntry .badArg) := by
  change execSceneEntry tag src dst level cls s = _
  rw [execSceneEntry, onCommand_eq s _ htake]
  obtain hsrc | hdst | hcls := h
  · rw [number?_eq_none hsrc]
  · rw [number?_eq_none hdst]
    cases number? 64 src <;> rfl
  · rw [number?_eq_none hcls]
    cases number? 64 src <;> cases number? 64 dst <;> rfl

variable {a b : PortNo} {c : XpClass} (hsrc : src.toNat = a.val) (hdst : dst.toNat = b.val)
  (hcls : cls.toNat = c.val)
include hsrc hdst hcls

/-- Arguments in range meet the commit in flight first, then the room in the staging area. -/
theorem exec_sceneEntry_of_inRange :
    exec (.sceneEntry tag src dst level cls) s =
      .next (if s.committing then s.reply tag Kind.sceneEntry .busy
        else (stage s.writer.staging ⟨a, b, min 4095 level.toNat, c⟩).elim
          (s.reply tag Kind.sceneEntry .noRoom)
          fun list => (s.withStaging list).reply tag Kind.sceneEntry
            (if level.toNat ≤ 4095 then .ok else .clamped)) := by
  change execSceneEntry tag src dst level cls s = _
  rw [execSceneEntry, onCommand_eq s _ htake, number?_eq_some hsrc, number?_eq_some hdst,
    number?_eq_some hcls]
  simp only [clampTo_zero, okOr_not_inRange_zero]
  cases stage s.writer.staging ⟨a, b, min 4095 level.toNat, c⟩ <;> rfl

theorem exec_sceneEntry_of_committing (h : s.writer.state = .committing) :
    exec (.sceneEntry tag src dst level cls) s =
      .next (s.reply tag Kind.sceneEntry .busy) := by
  rw [exec_sceneEntry_of_inRange htake tag level hsrc hdst hcls,
    if_pos (s.committing_iff.mpr h)]

variable (h : s.writer.state ≠ .committing)
include h

theorem exec_sceneEntry_of_staged {list : List Staged}
    (hstage : stage s.writer.staging ⟨a, b, min 4095 level.toNat, c⟩ = some list) :
    exec (.sceneEntry tag src dst level cls) s =
      .next ((s.withStaging list).reply tag Kind.sceneEntry
        (if level.toNat ≤ 4095 then .ok else .clamped)) := by
  rw [exec_sceneEntry_of_inRange htake tag level hsrc hdst hcls,
    if_neg (mt s.committing_iff.mp h), hstage, Option.elim_some]

theorem exec_sceneEntry_of_full
    (hstage : stage s.writer.staging ⟨a, b, min 4095 level.toNat, c⟩ = none) :
    exec (.sceneEntry tag src dst level cls) s =
      .next (s.reply tag Kind.sceneEntry .noRoom) := by
  rw [exec_sceneEntry_of_inRange htake tag level hsrc hdst hcls,
    if_neg (mt s.committing_iff.mp h), hstage, Option.elim_none]

end

/-- Settles O24: by the arguments' ranges, the commit in flight and what `stage` answers, each
command's next state is the stated one with one reply formed, which completes it. -/
theorem scenesAreStaged : Obligations.ScenesAreStaged := by
  intro tag src dst level cls s htake
  refine ⟨fun hbusy => ?_, fun hidle => ?_, fun hrange => ?_, fun a b c hsrc hdst hcls => ?_⟩
  · have hempty (kind : Byte) := emptyStaging_of_committing tag kind hbusy
    exact ⟨completes_of_reply (hempty _ ▸ exec_sceneBegin htake tag) rfl rfl,
      completes_of_reply (hempty _ ▸ exec_sceneAbandon htake tag) rfl rfl⟩
  · have hempty (kind : Byte) := emptyStaging_of_not_committing tag kind hidle
    exact ⟨completes_withStaging (hempty _ ▸ exec_sceneBegin htake tag),
      completes_withStaging (hempty _ ▸ exec_sceneAbandon htake tag)⟩
  · exact completes_of_reply (exec_sceneEntry_of_outOfRange htake tag level hrange) rfl rfl
  · refine ⟨fun hbusy => completes_of_reply
      (exec_sceneEntry_of_committing htake tag level hsrc hdst hcls hbusy) rfl rfl,
      fun hidle => ?_⟩
    have staged {list : List Staged} := exec_sceneEntry_of_staged htake tag level hsrc hdst hcls
      hidle (list := list)
    have full := exec_sceneEntry_of_full htake tag level hsrc hdst hcls hidle
    refine ⟨fun hpair => completes_withStaging (staged (stage_of_pair_staged hpair)),
      fun hnew => ⟨fun hfull => ?_, fun hroom => ?_⟩⟩
    · exact completes_of_reply (full ((stage_of_pair_new hnew).trans (if_pos hfull))) rfl rfl
    · exact completes_withStaging
        (staged ((stage_of_pair_new hnew).trans (if_neg hroom.not_ge)))

end Sys2Proof.Machine
end

section
/-! PROOFS. What every change of the state keeps: the queue of commands, and the invariants of the
Crosspoint Table, the Duck Units, the Key Queues, the cancel histories, the Report Queue, the command
FIFO and the Station Timing Unit (R1, R4, R5, R27, R28, R56, R68, R69, R103, R177, R181). One relation
holds them all; first the rules of the updates, each proved once. -/

namespace Sys2Proof.Machine

/-! ## Sound rows of the Crosspoint Table (R27, R28) -/

/-- The claim list of a sound entry. -/
def ClaimsSound (claims : List Claim) : Prop :=
  1 ≤ claims.length ∧ claims.length ≤ 8 ∧ (claims.map Claim.origin).Nodup

section
variable {α β : Type} [LinearOrder β] (f : α → β)

theorem le_foldl_max (l : List α) (b : β) : b ≤ l.foldl (fun m x => max m (f x)) b := by
  induction l generalizing b with
  | nil => exact le_rfl
  | cons x l ih => exact (le_max_left b (f x)).trans (ih _)

theorem le_foldl_max_of_mem {l : List α} {x : α} (hx : x ∈ l) (b : β) :
    f x ≤ l.foldl (fun m x => max m (f x)) b := by
  induction hx generalizing b with
  | head l => exact (le_max_right b (f x)).trans (le_foldl_max f l _)
  | tail y _ ih => exact ih _

theorem foldl_max_mem (l : List α) (b : β) :
    l.foldl (fun m x => max m (f x)) b = b ∨
      ∃ x ∈ l, f x = l.foldl (fun m x => max m (f x)) b := by
  induction l generalizing b with
  | nil => exact .inl rfl
  | cons x l ih =>
    obtain h | ⟨y, hy, h⟩ := ih (max b (f x))
    · obtain hb | hx := max_choice b (f x)
      · exact .inl (h.trans hb)
      · exact .inr ⟨x, List.mem_cons_self, (h.trans hx).symm⟩
    · exact .inr ⟨y, List.mem_cons_of_mem x hy, h⟩

/-- From the least value the maximum is attained, where there is anything to take it of. -/
theorem foldl_max_attained {l : List α} {b : β} (hb : ∀ y : β, b ≤ y) (hl : l ≠ []) :
    ∃ x ∈ l, f x = l.foldl (fun m x => max m (f x)) b := by
  obtain h | h := foldl_max_mem f l b
  · obtain ⟨x, hx⟩ := List.exists_mem_of_ne_nil l hl
    exact ⟨x, hx, le_antisymm (le_foldl_max_of_mem f hx b) (h.trans_le (hb _))⟩
  · exact h

end

/-- Recomputed maxima make an entry sound (R27). -/
theorem Entry.sound_withClaims {claims : List Claim} (e : Entry) (h : ClaimsSound claims) :
    (e.withClaims claims).Sound := by
  obtain ⟨hpos, h8, hnodup⟩ := h
  have hne : claims ≠ [] := List.ne_nil_of_length_pos hpos
  exact ⟨hpos, h8, hnodup,
    fun c hc => ⟨le_foldl_max_of_mem Claim.level hc 0, le_foldl_max_of_mem Claim.cls hc 0⟩,
    foldl_max_attained Claim.level Nat.zero_le hne, foldl_max_attained Claim.cls Fin.zero_le hne⟩

theorem Entry.Sound.claimsSound {e : Entry} (h : e.Sound) : ClaimsSound e.claims :=
  ⟨h.1, h.2.1, h.2.2.1⟩

theorem Entry.Sound.of_contents {e e' : Entry} (hc : e'.contents = e.contents) (h : e.Sound) :
    e'.Sound := by
  simp only [Entry.contents, Prod.mk.injEq] at hc
  obtain ⟨-, hclaims, hlevel, hcls⟩ := hc
  simpa only [Entry.Sound, hclaims, hlevel, hcls] using h

/-- One destination's entries as R27 and R28 say they are. -/
def RowSound (d : PortNo) (es : List Entry) : Prop :=
  es.length ≤ 32 ∧ (es.map Entry.source).Nodup ∧ ∀ e ∈ es, e.source ≠ d ∧ e.Sound

theorem sources_of_contents {es es' : List Entry}
    (h : es'.map Entry.contents = es.map Entry.contents) :
    es'.map Entry.source = es.map Entry.source := by
  have := congrArg (List.map Prod.fst) h
  rwa [List.map_map, List.map_map] at this

theorem length_of_contents {es es' : List Entry}
    (h : es'.map Entry.contents = es.map Entry.contents) : es'.length = es.length := by
  simpa using congrArg List.length h

/-- The states of the entries do not bear on the row's soundness. -/
theorem RowSound.of_contents {d : PortNo} {es es' : List Entry}
    (hc : es'.map Entry.contents = es.map Entry.contents) (h : RowSound d es) :
    RowSound d es' := by
  obtain ⟨hlen, hnodup, hall⟩ := h
  refine ⟨length_of_contents hc ▸ hlen, sources_of_contents hc ▸ hnodup, fun e' he' => ?_⟩
  obtain ⟨e, he, heq⟩ : ∃ e ∈ es, e.contents = e'.contents :=
    List.mem_map.mp (hc ▸ List.mem_map_of_mem he')
  have hsource : e'.source = e.source := congrArg Prod.fst heq.symm
  exact ⟨hsource ▸ (hall e he).1, (hall e he).2.of_contents heq.symm⟩

/-- New claims for the entry of one source leave the row sound. -/
theorem RowSound.setClaims {d : PortNo} {es : List Entry} {claims : List Claim} (src : PortNo)
    (h : RowSound d es) (hc : ClaimsSound claims) :
    RowSound d (es.map fun e => if e.source = src then e.withClaims claims else e) := by
  obtain ⟨hlen, hnodup, hall⟩ := h
  have hsource : (es.map fun e => if e.source = src then e.withClaims claims else e).map
      Entry.source = es.map Entry.source := by
    rw [List.map_map]
    refine List.map_congr_left fun e _ => ?_
    simp only [Function.comp_apply]
    split <;> rfl
  refine ⟨by simpa using hlen, hsource ▸ hnodup, fun e' he' => ?_⟩
  obtain ⟨e, he, rfl⟩ := List.mem_map.mp he'
  split
  · exact ⟨(hall e he).1, e.sound_withClaims hc⟩
  · exact hall e he

theorem RowSound.filter {d : PortNo} {es : List Entry} (h : RowSound d es) (p : Entry → Bool) :
    RowSound d (es.filter p) := by
  obtain ⟨hlen, hnodup, hall⟩ := h
  exact ⟨(List.length_filter_le p es).trans hlen,
    hnodup.sublist (List.filter_sublist.map Entry.source),
    fun e he => hall e (List.mem_of_mem_filter he)⟩

/-! ## Sound ports and Duck Units (R56) -/

/-- A port record and its Duck Unit as R56 says they are, with the profile pending. -/
def DuckPortSound (x : DuckPort) : Prop :=
  x.2.Sound x.1 ∧ x.1.profile.Sound ∧ ∀ q, x.1.pendingProfile = some q → q.Sound

section
variable {x : DuckPort} (es : List Entry)

/-- The unit's trigger, step and hold remaining do not bear on its soundness. -/
theorem DuckPortSound.of_unit (h : DuckPortSound x) {d : Duck} (hfactor : d.factor = x.2.factor)
    (hstate : d.state = .opened → x.2.state = .opened) : DuckPortSound (x.1, d) := by
  obtain ⟨⟨hlo, hhi, hopen⟩, hrest⟩ := h
  exact ⟨⟨hfactor ▸ hlo, hfactor ▸ hhi, fun hd => hfactor ▸ hopen (hstate hd)⟩, hrest⟩

/-- A unit outside OPEN may take any factor from the depth in force to 1024. -/
theorem DuckPortSound.of_factor (h : DuckPortSound x) {d : Duck}
    (hlo : x.1.profile.depth ≤ d.factor) (hhi : d.factor ≤ 1024) (hstate : d.state ≠ .opened) :
    DuckPortSound (x.1, d) :=
  ⟨⟨hlo, hhi, fun hd => absurd hd hstate⟩, h.2⟩

theorem duckAttack_sound (h : DuckPortSound x) : DuckPortSound (duckAttack x) := by
  unfold duckAttack
  dsimp only
  split
  · exact h.of_factor le_rfl h.2.1 (by simp)
  · exact h.of_unit rfl (by simp)

theorem duckReassessOpen_sound (h : DuckPortSound x) : DuckPortSound (duckReassessOpen es x) := by
  unfold duckReassessOpen
  split
  · exact duckAttack_sound (h.of_unit (d := { x.2 with trigger := true }) rfl id)
  · exact h.of_unit rfl id

theorem duckOpen_sound (h : DuckPortSound x) : DuckPortSound (duckOpen es x) := by
  obtain ⟨-, hprofile, hpending⟩ := h
  unfold duckOpen
  refine duckReassessOpen_sound es ?_
  split
  · rename_i profile heq
    have hp : profile.Sound := hpending profile heq
    exact ⟨⟨hp, le_rfl, fun _ => rfl⟩, hp, fun _ hq => by cases hq⟩
  · exact ⟨⟨hprofile, le_rfl, fun _ => rfl⟩, hprofile, hpending⟩

theorem duckHoldExpire_sound (h : DuckPortSound x) : DuckPortSound (duckHoldExpire es x) := by
  unfold duckHoldExpire
  dsimp only
  split
  · exact duckOpen_sound es h
  · exact h.of_unit rfl (by simp)

theorem duckAppear_sound (h : DuckPortSound x) : DuckPortSound (duckAppear x) := by
  have ht : DuckPortSound (x.1, { x.2 with trigger := true }) := h.of_unit rfl id
  unfold duckAppear
  dsimp only
  split
  · exact duckAttack_sound ht
  · exact duckAttack_sound ht
  · exact h.of_factor le_rfl h.2.1 (by simp)
  · exact ht
  · exact ht

theorem duckGone_sound (h : DuckPortSound x) : DuckPortSound (duckGone es x) := by
  have hstate (st : DuckState) (hx : x.2.state = st) (hst : st ≠ .opened) :
      DuckPortSound (if x.1.profile.hold = 0 then
        duckHoldExpire es (x.1, { x.2 with trigger := false, step := none })
      else (x.1, { x.2 with
        trigger := false, state := .hold, step := none
        holdRemaining := x.1.profile.hold })) := by
    split
    · exact duckHoldExpire_sound es (h.of_unit rfl id)
    · exact h.of_unit rfl (by simp)
  unfold duckGone
  dsimp only
  split
  · exact hstate _ ‹_› (by simp)
  · exact hstate _ ‹_› (by simp)
  all_goals exact h.of_unit rfl id

theorem duckReassess_sound (h : DuckPortSound x) : DuckPortSound (duckReassess es x) := by
  unfold duckReassess
  dsimp only
  split
  · exact h
  · split
    · exact duckAppear_sound h
    · exact duckGone_sound es h

/-- The factor supplied for a pass lies in the range (R56, R58). -/
theorem duckFactor_range (h : DuckPortSound x) :
    x.1.profile.depth ≤ duckFactor x ∧ duckFactor x ≤ 1024 := by
  obtain ⟨⟨hlo, hhi, -⟩, hprofile, -⟩ := h
  have hdepth : x.1.profile.depth ≤ 1024 := hprofile
  unfold duckFactor
  dsimp only
  split <;> omega

theorem duckAdvance_sound (h : DuckPortSound x) : DuckPortSound (duckAdvance es x) := by
  obtain ⟨hlo, hhi⟩ := duckFactor_range h
  unfold duckAdvance
  dsimp only
  cases hst : x.2.state with
  | opened => exact h
  | attack =>
    dsimp only
    split
    · exact h.of_factor hlo hhi (by simp)
    · exact h.of_factor hlo hhi (by simp)
  | ducked => exact h.of_factor hlo hhi (by simp)
  | hold => exact h.of_unit rfl (by simp [hst])
  | release =>
    dsimp only
    split
    · exact duckOpen_sound es h
    · exact h.of_factor hlo hhi (by simp)

end

/-! ## Sound Key Queues (R103) -/

theorem KeyQueue.sound_withRecords (q : KeyQueue) {records : List KeyRecord}
    (h : (records.map KeyRecord.size).sum ≤ 256) : (q.withRecords records).Sound :=
  ⟨rfl, rfl, h⟩

/-- Fewer records are sound wherever all of them were. -/
theorem KeyQueue.Sound.withRecords {q : KeyQueue} (h : q.Sound) {records : List KeyRecord}
    (hsub : records.Sublist q.records) : (q.withRecords records).Sound := by
  obtain ⟨-, hused, hmax⟩ := h
  exact q.sound_withRecords
    (((hsub.map KeyRecord.size).sum_le_sum fun _ _ => Nat.zero_le _).trans (hused ▸ hmax))

theorem KeyQueue.Sound.removeHead {q : KeyQueue} (h : q.Sound) : q.removeHead.Sound :=
  h.withRecords (List.drop_sublist 1 q.records)

theorem KeyQueue.Sound.purge {q : KeyQueue} (h : q.Sound) (a : PanelAddr) :
    (q.purge a).Sound := by
  unfold KeyQueue.purge
  dsimp only
  split
  · refine h.withRecords ?_
    conv => rhs; rw [← List.take_append_drop 1 q.records]
    exact (List.Sublist.refl _).append List.filter_sublist
  · exact h.withRecords List.filter_sublist

theorem KeyQueue.Sound.append {q : KeyQueue} (h : q.Sound) {r : KeyRecord} (hfits : q.fits r) :
    (q.withRecords (q.records ++ [r])).Sound := by
  obtain ⟨-, hused, hmax⟩ := h
  refine q.sound_withRecords ?_
  have hr : r.size ≤ 256 - q.bytesUsed := by simpa [KeyQueue.fits] using hfits
  simp only [List.map_append, List.sum_append, List.map_cons, List.map_nil, List.sum_cons,
    List.sum_nil]
  omega

/-! ## Sound cancel histories (R68, R69) -/

/-- A history in its one form: positions rising below 4096, no sample 0. -/
def HistorySound (h : List (Nat × Sample)) : Prop :=
  (h.map Prod.fst).Pairwise (· < ·) ∧ ∀ x ∈ h, x.1 < 4096 ∧ x.2 ≠ 0

theorem mem_recordSample {pos : Nat} {v : Sample} {h : List (Nat × Sample)} {x : Nat × Sample}
    (hx : x ∈ recordSample pos v h) : x ∈ h ∨ x = (pos, v) ∧ v ≠ 0 := by
  induction h with
  | nil =>
    unfold recordSample at hx
    split at hx <;> simp_all
  | cons y h ih =>
    obtain ⟨q, w⟩ := y
    unfold recordSample at hx
    split at hx
    · obtain rfl | hx := List.mem_cons.mp hx
      · exact .inl List.mem_cons_self
      · exact (ih hx).imp_left (List.mem_cons_of_mem _)
    · dsimp only at hx
      split at hx <;> split at hx <;> simp_all <;> tauto

theorem recordSample_sound {pos : Nat} (hpos : pos < 4096) (v : Sample)
    {h : List (Nat × Sample)} (hs : HistorySound h) : HistorySound (recordSample pos v h) := by
  refine ⟨?_, fun x hx => ?_⟩
  · replace hs := hs.1
    induction h with
    | nil =>
      unfold recordSample
      split <;> simp
    | cons y h ih =>
      obtain ⟨q, w⟩ := y
      simp only [List.map_cons, List.pairwise_cons] at hs
      obtain ⟨hlt, hs⟩ := hs
      unfold recordSample
      split
      · rename_i hq
        refine List.pairwise_cons.mpr ⟨fun a ha => ?_, ih hs⟩
        obtain ⟨x, hx, rfl⟩ := List.mem_map.mp ha
        obtain hx | ⟨rfl, -⟩ := mem_recordSample hx
        · exact hlt _ (List.mem_map_of_mem hx)
        · exact hq
      · rename_i hq
        have htail : (((if q = pos then h else (q, w) :: h)).map Prod.fst).Pairwise (· < ·) := by
          split
          · exact hs
          · exact List.pairwise_cons.mpr ⟨hlt, hs⟩
        dsimp only
        split
        · exact htail
        · refine List.pairwise_cons.mpr ⟨fun a ha => ?_, htail⟩
          split at ha
          · rename_i heq
            exact heq ▸ hlt a ha
          · rename_i hne
            obtain rfl | ha := List.mem_cons.mp ha
            · dsimp only
              omega
            · have := hlt a ha
              omega
  · obtain hx | ⟨rfl, hv⟩ := mem_recordSample hx
    · exact hs.2 x hx
    · exact ⟨hpos, hv⟩

end Sys2Proof.Machine
end

section
/-! PROOFS. The relation every change of the state stands in, and its rules for the updates and for the
operations of the tables. -/

namespace Sys2Proof.Machine

namespace State

/-- From `s` to `t` the queue of commands stays, and no invariant of the tables, the queues and the
timing unit is lost. -/
structure Keeps (s t : State) : Prop where
  pending : t.pending = s.pending
  crosspoints : s.CrosspointsSound → t.CrosspointsSound
  ducks : s.DucksSound → t.DucksSound
  keyQueues : s.KeyQueuesSound → t.KeyQueuesSound
  cancel : s.CancelSound → t.CancelSound
  reports : s.ReportsBounded → t.ReportsBounded
  fifo : s.FifoBounded → t.FifoBounded
  timing : s.timing.Sound → t.timing.Sound

/-- The part of the state that those invariants read, and the queue of commands. -/
def guardedPart (s : State) :=
  (s.pending, s.xp, s.ports, s.ducks, s.keyQueues, s.cancel, s.reports, s.control.fifo, s.timing)

namespace Keeps

variable {s t u : State}

theorem refl (s : State) : Keeps s s := ⟨rfl, id, id, id, id, id, id, id⟩

theorem trans (h : Keeps s t) (k : Keeps t u) : Keeps s u where
  pending := k.pending.trans h.pending
  crosspoints := k.crosspoints ∘ h.crosspoints
  ducks := k.ducks ∘ h.ducks
  keyQueues := k.keyQueues ∘ h.keyQueues
  cancel := k.cancel ∘ h.cancel
  reports := k.reports ∘ h.reports
  fifo := k.fifo ∘ h.fifo
  timing := k.timing ∘ h.timing

theorem of_same (h : t.guardedPart = s.guardedPart) : Keeps s t := by
  simp only [guardedPart, Prod.mk.injEq] at h
  obtain ⟨hpending, hxp, hports, hducks, hqueues, hcancel, hreports, hfifo, htiming⟩ := h
  constructor
  · exact hpending
  · simp only [CrosspointsSound, entryCount, into, hxp, imp_self]
  · simp only [DucksSound, duck, port, hports, hducks, imp_self]
  · simp only [KeyQueuesSound, keyQueue, hqueues, imp_self]
  · simp only [CancelSound, slot, hcancel, imp_self]
  · simp only [ReportsBounded, hreports, imp_self]
  · simp only [FifoBounded, hfifo, imp_self]
  · simp only [htiming, imp_self]

/-- A further change that leaves the part the invariants read. -/
theorem same (h : Keeps s t) (hu : u.guardedPart = t.guardedPart) : Keeps s u :=
  h.trans (of_same hu)

theorem ite {c : Prop} [Decidable c] (ht : Keeps s t) (hu : Keeps s u) :
    Keeps s (if c then t else u) := by
  split
  · exact ht
  · exact hu

theorem foldl {α : Type} {f : State → α → State}
    (hf : ∀ {u : State} (a : α), Keeps s u → Keeps s (f u a)) (l : List α) (h : Keeps s t) :
    Keeps s (l.foldl f t) := by
  induction l generalizing t with
  | nil => exact h
  | cons a l ih => exact ih (hf a h)

/-! ## The updates -/

variable (h : Keeps s t)
include h

theorem modLine (l : LineNo) (f : PanelLine → PanelLine) : Keeps s (t.modLine l f) := h.same rfl

theorem modPanel (l : LineNo) (a : PanelAddr) (f : PanelRec → PanelRec) :
    Keeps s (t.modPanel l a f) := h.same rfl

theorem modArbiter (f : Arbiter → Arbiter) : Keeps s (t.modArbiter f) := h.same rfl

theorem modKey (k : KeyId) (f : KeyCell → KeyCell) : Keeps s (t.modKey k f) := h.same rfl

theorem modTalk (id : TalkId) (f : Talk → Talk) : Keeps s (t.modTalk id f) := h.same rfl

theorem modLane (l : LaneNo) (f : Lane → Lane) : Keeps s (t.modLane l f) := h.same rfl

theorem modBuffer (b : BufNo) (f : PathBuf → PathBuf) : Keeps s (t.modBuffer b f) := h.same rfl

theorem modHealthRec (l : LaneNo) (f : HealthRec → HealthRec) : Keeps s (t.modHealthRec l f) :=
  h.same rfl

theorem modProbe (f : Probe → Probe) : Keeps s (t.modProbe f) := h.same rfl

theorem modWriter (f : Writer → Writer) : Keeps s (t.modWriter f) := h.same rfl

theorem setUnits (units : List UnitEntry) : Keeps s { t with units := units } := h.same rfl

theorem setHealth (x : Health) : Keeps s { t with health := x } := h.same rfl

theorem setStationId (x : Ident) : Keeps s { t with stationId := x } := h.same rfl

theorem useFree : Keeps s t.useFree := h.same rfl

theorem submitHost (p : Purpose) (ops : List ClaimOp) : Keeps s (t.submitHost p ops) := h.same rfl

theorem submitTalk (p : Purpose) (ops : List ClaimOp) : Keeps s (t.submitTalk p ops) := h.same rfl

theorem beginService (tag kind : Byte) (clamped : Bool) :
    Keeps s (t.beginService tag kind clamped) := h.same rfl

/-- The control line but its FIFO, which may lose frames and may grow to 8. -/
theorem modControl {f : Control → Control}
    (hf : t.FifoBounded → (f t.control).fifo.length ≤ 8) : Keeps s (t.modControl f) :=
  h.trans { refl t with fifo := hf }

/-- The timing unit. -/
theorem modTiming {f : Timing → Timing} (hf : t.timing.Sound → (f t.timing).Sound) :
    Keeps s (t.modTiming f) :=
  h.trans { refl t with timing := hf }

theorem modKeyQueue (l : LineNo) {f : KeyQueue → KeyQueue}
    (hf : (t.keyQueue l).Sound → (f (t.keyQueue l)).Sound) : Keeps s (t.modKeyQueue l f) := by
  refine h.trans { refl t with keyQueues := fun hq m => ?_ }
  rw [keyQueue_modKeyQueue]
  split
  · exact hf (hq l)
  · exact hq m

theorem modSlot (k : SlotNo) {f : CancelSlot → CancelSlot}
    (hf : (t.slot k).Sound → (f (t.slot k)).Sound) : Keeps s (t.modSlot k f) := by
  refine h.trans { refl t with cancel := fun hc j => ?_ }
  rw [slot_modSlot]
  split
  · exact hf (hc k)
  · exact hc j

/-- A port's record and its Duck Unit, together. -/
theorem setDuckPort (p : PortNo) {x : DuckPort}
    (hx : DuckPortSound (t.port p, t.duck p) → DuckPortSound x) :
    Keeps s { t with ports := t.ports.set p x.1, ducks := t.ducks.set p x.2 } := by
  refine h.trans { refl t with ducks := fun hd q => ?_ }
  by_cases hq : q = p
  · subst hq
    simpa [State.port, State.duck, DuckPortSound] using hx (hd q)
  · simpa [State.port, State.duck, Table.get_set_ne _ _ hq] using hd q

theorem modPort (p : PortNo) {f : Port → Port}
    (hf : DuckPortSound (t.port p, t.duck p) → DuckPortSound (f (t.port p), t.duck p)) :
    Keeps s (t.modPort p f) := by
  refine h.trans { refl t with ducks := fun hd q => ?_ }
  rw [port_modPort]
  split
  · next hq => subst hq; exact hf (hd q)
  · exact hd q

/-- A change of a port's record but its duck profiles. -/
theorem modPort' (p : PortNo) {f : Port → Port}
    (hprofile : (f (t.port p)).profile = (t.port p).profile := by rfl)
    (hpending : (f (t.port p)).pendingProfile = (t.port p).pendingProfile := by rfl) :
    Keeps s (t.modPort p f) :=
  h.modPort p fun hd => by
    simpa only [DuckPortSound, Duck.Sound, hprofile, hpending] using hd

/-- One destination's entries. -/
theorem setInto (d : PortNo) {es : List Entry} (hrow : RowSound d (t.into d) → RowSound d es)
    (hcount : es.length ≤ (t.into d).length ∨
      t.entryCount + es.length ≤ 1024 + (t.into d).length) : Keeps s (t.setInto d es) := by
  refine h.trans { refl t with crosspoints := fun hx => ?_ }
  obtain ⟨hle, hall⟩ := hx
  refine ⟨?_, fun d' => ?_⟩
  · have hsum : (t.setInto d es).entryCount + (t.into d).length = t.entryCount + es.length := by
      have hd : d.val < (t.xp.cells.map List.length).length := by
        rw [List.length_map, t.xp.size_eq]; exact d.isLt
      have hold := List.sum_set (t.xp.cells.map List.length) d.val es.length
      have hsame := List.sum_set (t.xp.cells.map List.length) d.val (t.into d).length
      have hid : (t.xp.cells.map List.length).set d.val (t.into d).length =
          t.xp.cells.map List.length := by
        conv_rhs => rw [← List.set_getElem_self hd]
        simp only [List.getElem_map]
        rfl
      rw [hid] at hsame
      simp only [State.entryCount, State.setInto, Table.set, List.map_set]
      simp only [hd, if_true] at hold hsame
      omega
    omega
  · rw [into_setInto]
    split
    · next hd => subst hd; exact hrow (hall d')
    · exact hall d'

/-! ## The control line and the Report Queue -/

omit h in
theorem startTransmitter_self (t : State) : Keeps t t.startTransmitter where
  pending := startTransmitter_pending t
  crosspoints := by simp only [CrosspointsSound, entryCount, into, startTransmitter_xp, imp_self]
  ducks := by
    simp only [DucksSound, duck, port, startTransmitter_ports, startTransmitter_ducks, imp_self]
  keyQueues := by simp only [KeyQueuesSound, keyQueue, startTransmitter_keyQueues, imp_self]
  cancel := by simp only [CancelSound, slot, startTransmitter_cancel, imp_self]
  reports := (startTransmitter_queue_length t).trans
  fifo := by rw [startTransmitter_frame]; exact id
  timing := by simp only [startTransmitter_timing, imp_self]

theorem startTransmitter : Keeps s t.startTransmitter := h.trans (startTransmitter_self t)

theorem report (r : Report) : Keeps s (t.report r) := by
  have offered : Keeps t { t with reports := ReportQueue.offer t.reports r } :=
    { refl t with
      reports := fun hb => by
        unfold ReportsBounded ReportQueue.offer at *
        dsimp only
        split
        · simpa using ‹_›
        · exact hb }
  exact (h.trans offered).startTransmitter

theorem reply (tag kind : Byte) (code : ResultCode) (fields : ReplyFields) :
    Keeps s (t.reply tag kind code fields) :=
  (h.same (u := { t with control := { t.control with
    replies := t.control.replies ++ [⟨tag, kind, code, fields⟩] } }) rfl).startTransmitter

theorem endService (code : Bool → ResultCode) (fields : ReplyFields) :
    Keeps s (t.endService code fields) := by
  unfold State.endService
  split
  · exact (h.same (u := { t with control := { t.control with service := none } }) rfl).reply ..
  · exact h

/-! ## Duck Units and re-stating -/

theorem onDuck (p : PortNo) {f : List Entry → DuckPort → DuckPort}
    (hf : ∀ es {x}, DuckPortSound x → DuckPortSound (f es x)) : Keeps s (t.onDuck p f) :=
  h.setDuckPort p (hf _)

theorem reassessDuck (p : PortNo) : Keeps s (t.reassessDuck p) :=
  h.onDuck p fun es _ => duckReassess_sound es

theorem noticeTalks (src dst : PortNo) (claims : List Claim) (live : Bool) :
    Keeps s (t.noticeTalks src dst claims live) := h.modArbiter _

theorem refreshOnAir (p : PortNo) : Keeps s (t.refreshOnAir p) :=
  foldl (fun _ hu => hu.modLane _ _) _ h

/-- Entries whose contents stay: only states are re-decided. -/
theorem setInto_contents (d : PortNo) {es : List Entry}
    (hc : es.map Entry.contents = (t.into d).map Entry.contents) : Keeps s (t.setInto d es) :=
  h.setInto d (RowSound.of_contents hc) (.inl (length_of_contents hc).le)

end Keeps

/-- A change of the state of one source's entry leaves every entry's contents. -/
theorem contents_map_state (es : List Entry) (src : PortNo) (now : EntryState) :
    (es.map fun x => if x.source = src then { x with state := now } else x).map Entry.contents =
      es.map Entry.contents := by
  rw [List.map_map]
  refine List.map_congr_left fun e _ => ?_
  simp only [Function.comp_apply]
  split <;> rfl

namespace Keeps

variable {s t : State} (h : Keeps s t)
include h

theorem restateEntry (src dst : PortNo) : Keeps s (t.restateEntry src dst) := by
  unfold State.restateEntry
  split
  · exact h
  · have hset := (h.setInto_contents dst
      (contents_map_state (t.into dst) src (t.entryState src dst))).reassessDuck dst
    exact h.ite (refreshOnAir (hset.ite (hset.noticeTalks ..)) src)

theorem restatePort (p : PortNo) : Keeps s (t.restatePort p) :=
  foldl (fun _ hu => hu.restateEntry _ _) _ h

end Keeps

end State

end Sys2Proof.Machine
end

section
/-! PROOFS. The operations of the lanes, the handshake, the Path Buffers, the Alignment Probe, the Health
Monitor and the Crosspoint Table keep the invariants. -/

namespace Sys2Proof.Machine

namespace State.Keeps

variable {s t : State} (h : Keeps s t)
include h

/-! ## Changes of lane state (08, 09) -/

theorem releaseUnit (l : LaneNo) : Keeps s (t.releaseUnit l) := by
  unfold State.releaseUnit
  split
  · exact h
  · exact ite (h.modLane l _) ((h.modLane l _).setUnits _)

theorem flushBuffer (p : PortNo) : Keeps s (t.flushBuffer p) := by
  unfold State.flushBuffer
  split
  · exact h.modBuffer _ _
  · exact h

theorem changeLaneState (l : LaneNo) (st : LaneState) : Keeps s (t.changeLaneState l st) := by
  have h1 : Keeps s (t.modLane l fun x => x.arrive st) := h.modLane l _
  unfold State.changeLaneState
  dsimp only
  cases (t.lane l).boundPort with
  | none =>
    have h3 := h1.ite (c := st.keepsUnit = true) (h1.releaseUnit l)
    exact h3.ite (h3.modLane l _)
  | some p =>
    have h2 := h1.ite (c := (t.modLane l fun x => x.arrive st).linkPresent p = t.linkPresent p)
      (h1.restatePort p)
    have h3 := h2.ite (c := st.keepsUnit = true) (h2.releaseUnit l)
    have h4 := h3.ite (c := st.isRun = true) (h3.modLane l fun x => { x with remoteCall := false })
    exact ite (h4.flushBuffer p) h4

theorem reportLaneState (l : LaneNo) (left : LaneState) (cause : LaneCause) :
    Keeps s (t.reportLaneState l left cause) := h.report _

theorem enterSeek (l : LaneNo) : Keeps s (t.enterSeek l) := (h.changeLaneState l .seek).modLane l _

theorem enterOff (l : LaneNo) : Keeps s (t.enterOff l) := (h.changeLaneState l .off).modLane l _

theorem enterBarred (l : LaneNo) (cause : LaneCause) : Keeps s (t.enterBarred l cause) := by
  unfold State.enterBarred
  exact ((h.changeLaneState l .barred).reportLaneState l _ cause).modLane l _

theorem handshakeError (l : LaneNo) : Keeps s (t.handshakeError l) :=
  ite ((h.modLane l _).enterSeek l) ((h.modLane l _).enterBarred l .errors)

theorem enterLive (l : LaneNo) (cause : LaneCause) : Keeps s (t.enterLive l cause) :=
  ((h.changeLaneState l .live).modLane l _).reportLaneState l _ cause

theorem returnToLive (l : LaneNo) : Keeps s (t.returnToLive l) :=
  (h.changeLaneState l .live).modLane l _

theorem enterDoze (l : LaneNo) (announce : Bool) : Keeps s (t.enterDoze l announce) :=
  have h1 := (h.changeLaneState l .doze).modLane l _
  ite (h1.reportLaneState l _ .doze) h1

theorem enterWaking (l : LaneNo) : Keeps s (t.enterWaking l) :=
  (h.changeLaneState l .waking).modLane l _

theorem loseLane (l : LaneNo) : Keeps s (t.loseLane l) :=
  ((h.modLane l _).enterSeek l).reportLaneState l _ .lost

theorem checkLoss (l : LaneNo) : Keeps s (t.checkLoss l) := by
  unfold State.checkLoss
  split
  · exact ite (h.loseLane l) h
  · exact h

theorem wakeLane (l : LaneNo) : Keeps s (t.wakeLane l) := by
  unfold State.wakeLane
  split
  · exact h.returnToLive l
  · exact h.enterWaking l
  · exact h

theorem wakePort (p : PortNo) : Keeps s (t.wakePort p) :=
  ite (foldl (fun l hu => hu.wakeLane l) _ h) h

theorem refreshLocalCall (p : PortNo) : Keeps s (t.refreshLocalCall p) :=
  foldl (fun l hu => hu.ite (ite ((hu.modLane l _).wakeLane l) (hu.modLane l _))) _ h

theorem refreshTalkClaim (p : PortNo) : Keeps s (t.refreshTalkClaim p) :=
  foldl (fun l hu => hu.ite (ite ((hu.modLane l _).returnToLive l) (hu.modLane l _))) _ h

theorem sendFrame (l : LaneNo) : Keeps s (t.sendFrame l) := h.modLane l _

theorem sendIfFollowing (l : LaneNo) : Keeps s (t.sendIfFollowing l) := by
  have hsend := ite (c := (t.lane l).role = some .follow) (h.sendFrame l) h
  unfold State.sendIfFollowing
  split <;> assumption

theorem sendAtBoundary (l : LaneNo) : Keeps s (t.sendAtBoundary l) := by
  have hsend := ite (c := (t.lane l).role = some .lead) (h.sendFrame l) h
  unfold State.sendAtBoundary
  dsimp only
  split
  any_goals first | exact h.sendFrame l | exact hsend | exact h
  exact ite (ite ((h.modLane l _).sendFrame l) (h.modLane l _)) h

/-! ## The handshake (08) -/

theorem connectUnit (unit : Ident) : Keeps s (t.connectUnit unit) := by
  unfold State.connectUnit
  refine ite (h.setUnits _) (ite (h.setUnits _) ?_)
  split
  · exact (h.setUnits _).report _
  · exact h

theorem enterPages (l : LaneNo) (r : Role) : Keeps s (t.enterPages l r) :=
  (h.changeLaneState l .pages).modLane l _

theorem tieOffers (l : LaneNo) : Keeps s (t.tieOffers l) :=
  ite ((h.modLane l _).enterBarred l .roleFault) ((h.modLane l _).modLane l _)

theorem resolve (l : LaneNo) : Keeps s (t.resolve l) := by
  unfold State.resolve
  split
  · exact h
  · split
    · exact h.handshakeError l
    · exact h.enterBarred l .roleFault
    · exact h.tieOffers l
    · exact h.enterPages l _

theorem firstOffer (l : LaneNo) (o : Offer) : Keeps s (t.firstOffer l o) :=
  (h.changeLaneState l .offer).modLane l _

theorem judgeOffer (l : LaneNo) (o : Offer) (ack : Bool) : Keeps s (t.judgeOffer l o ack) :=
  h.ite (ite (ite ((h.modLane l _).resolve l) (h.modLane l _)) (h.modLane l _))

theorem identify (l : LaneNo) : Keeps s (t.identify l) := by
  unfold State.identify
  dsimp only
  split
  · exact h
  · have h2 (f : Lane → Lane) := ((h.modLane l f).connectUnit (joinParts (t.lane l).remoteParts)).modLane l
    exact ite (h.enterBarred l .mismatch) (ite ((h2 _ _).report _) (h2 _ _))

theorem judgeEcho (l : LaneNo) (echo : Bool) : Keeps s (t.judgeEcho l echo) := h.modLane l _

theorem judgeEnd (l : LaneNo) (echo : Bool) (payload : BitVec 10) :
    Keeps s (t.judgeEnd l echo payload) := ite (h.enterLive l .handshake) (h.handshakeError l)

theorem takePage (l : LaneNo) (code : PageCode) (toggle echo : Bool) (payload : BitVec 10) :
    Keeps s (t.takePage l code toggle echo payload) := by
  have h2 (f g : Lane → Lane) := (h.modLane l f).modLane l g
  cases code with
  | id0 => exact (h2 _ _).judgeEcho l echo
  | id1 => exact (h2 _ _).judgeEcho l echo
  | id2 => exact (h2 _ _).judgeEcho l echo
  | id3 => exact ite (((h2 _ _).identify l).judgeEcho l echo) ((h2 _ _).identify l)
  | endPage => exact (h.modLane l _).judgeEnd l echo payload

theorem judgePage (l : LaneNo) (code : BitVec 3) (toggle echo : Bool) (payload : BitVec 10) :
    Keeps s (t.judgePage l code toggle echo payload) := by
  unfold State.judgePage
  split
  · exact h.handshakeError l
  · exact ite (ite (h.takePage ..) (h.handshakeError l))
      (ite (h.judgeEcho l echo) (h.handshakeError l))

theorem pageInOffer (l : LaneNo) (code : BitVec 3) (toggle echo : Bool) (payload : BitVec 10) :
    Keeps s (t.pageInOffer l code toggle echo payload) :=
  ite (ite ((h.resolve l).judgePage ..) (h.resolve l)) (h.handshakeError l)

/-! ## The Path Buffers (09 section 9.5) -/

theorem passBlock (l : LaneNo) (isNew : Bool) (seq : Byte) (block : Block) :
    Keeps s (t.passBlock l isNew seq block) := by
  unfold State.passBlock
  split
  · exact h
  · refine h.ite ?_
    dsimp only
    split
    · refine ite ?_ (h.modBuffer _ _)
      split
      · exact ite (h.modLane l _) h
      · exact (h.modLane l _).modBuffer _ _
      · exact h.modBuffer _ _
    · exact h.modBuffer _ _

theorem conceal (p : PortNo) (k : BufNo) : Keeps s (t.conceal p k) :=
  ite (((h.modBuffer k _).modBuffer k _).report _) (h.modBuffer k _)

theorem playCopy (k : BufNo) (l : LaneNo) (block : Block) : Keeps s (t.playCopy k l block) :=
  ite ((h.modBuffer k _).modLane l _) (h.modBuffer k _)

theorem playBuffer (k : BufNo) : Keeps s (t.playBuffer k) := by
  unfold State.playBuffer
  dsimp only
  split
  · refine modBuffer ?_ k _
    split
    · exact h.playCopy k _ _
    · exact ite (h.modBuffer k _) (h.conceal _ k)
  · exact h.modBuffer k _

/-! ## The receiving side of a lane -/

theorem frameError (l : LaneNo) (syndrome : BitVec 16) : Keeps s (t.frameError l syndrome) :=
  ((h.modHealthRec l _).modLane l _).checkLoss l

theorem failedFrame (l : LaneNo) (syndrome : Option (BitVec 16)) :
    Keeps s (t.failedFrame l syndrome) := by
  unfold State.failedFrame
  split
  · exact ite (h.useFree.frameError l _) (h.frameError l _)
  · exact h.useFree.frameError l _

theorem acceptFrame (l : LaneNo) (seq : Byte) (missing : Nat) :
    Keeps s (t.acceptFrame l seq missing) := (h.modHealthRec l _).modLane l _

theorem countMismatch (l : LaneNo) : Keeps s (t.countMismatch l) :=
  (h.modHealthRec l _).modLane l _

theorem setRemoteCall (l : LaneNo) (call : Bool) : Keeps s (t.setRemoteCall l call) := by
  unfold State.setRemoteCall
  dsimp only
  split
  · exact ite ((h.modLane l _).report _) (h.modLane l _)
  · exact h.modLane l _

theorem passAudio (l : LaneNo) (seq : Byte) (audio : LaneAudio) :
    Keeps s (t.passAudio l seq audio) := by
  unfold State.passAudio
  split
  · exact h.passBlock ..
  · exact (h.passBlock ..).passBlock ..
  · exact h

theorem judgeLiveWord (l : LaneNo) (call dozeReq : Bool) :
    Keeps s (t.judgeLiveWord l call dozeReq) :=
  ite (((h.setRemoteCall l call).changeLaneState l .dozeHold).modLane l _) (h.setRemoteCall l call)

theorem judgeHoldWord (l : LaneNo) (call dozeReq : Bool) :
    Keeps s (t.judgeHoldWord l call dozeReq) :=
  have h1 := h.setRemoteCall l call
  ite (ite ((h1.modLane l _).enterDoze l true) (h1.modLane l _)) (h1.returnToLive l)

theorem remoteWake (l : LaneNo) : Keeps s (t.remoteWake l) := (h.modLane l _).enterLive l .remote

theorem judgeKeepAlive (l : LaneNo) (call : Bool) : Keeps s (t.judgeKeepAlive l call) :=
  ite (((h.modLane l _).remoteWake l).setRemoteCall l true) (h.modLane l _)

theorem passIfRun (l : LaneNo) (seq : Byte) (word : LaneWord) (audio : LaneAudio) :
    Keeps s (t.passIfRun l seq word audio) := by
  unfold State.passIfRun
  split
  · exact h.passAudio l seq audio
  · exact h

theorem judgeRunFrame (l : LaneNo) (seq : Byte) (word : LaneWord) (audio : LaneAudio) :
    Keeps s (t.judgeRunFrame l seq word audio) := by
  have h1 : Keeps s (if audio ≠ .short ∧ audioFits (t.lane l) audio = false then
      t.countMismatch l else t) := ite (h.countMismatch l) h
  unfold State.judgeRunFrame
  dsimp only
  split
  · split
    · exact (h1.passIfRun ..).judgeLiveWord ..
    · exact h1.passIfRun ..
  · split
    · exact (h1.passIfRun ..).judgeHoldWord ..
    · exact h1.passIfRun ..
  · have h2 := ite (c := audioFits (t.lane l) audio)
      ((h1.enterLive l .woken).passIfRun l seq word audio) h1
    split
    · exact h2.setRemoteCall l _
    · exact h2
  · refine ite ((h1.remoteWake l).passIfRun ..) (ite (h1.modLane l _) ?_)
    split
    · exact h1.judgeKeepAlive l _
    · exact h1
  all_goals exact h1

theorem judgeFrame (l : LaneNo) (seq : Byte) (word : LaneWord) (audio : LaneAudio) :
    Keeps s (t.judgeFrame l seq word audio) := by
  unfold State.judgeFrame
  split
  · exact h.firstOffer l _
  · exact h.judgeOffer l _ _
  · exact h.pageInOffer ..
  · exact h.judgePage ..
  · exact h.handshakeError l
  any_goals exact h
  all_goals exact h.judgeRunFrame ..

theorem receiveFrame (l : LaneNo) (bytes : List Byte) : Keeps s (t.receiveFrame l bytes) := by
  unfold State.receiveFrame
  refine sendIfFollowing ?_ l
  split
  · exact h.failedFrame l _
  · split
    · exact h
    · exact (h.acceptFrame ..).judgeFrame ..

/-! ## The Alignment Probe (05) -/

theorem zeroFillSlot (p : PortNo) : Keeps s (t.zeroFillSlot p) := by
  unfold State.zeroFillSlot
  split
  · exact h.modSlot _ fun _ => ⟨List.Pairwise.nil, by simp⟩
  · exact h

theorem writeDelay (p : PortNo) (delay : Nat) : Keeps s (t.writeDelay p delay) := h.modPort' p

theorem endProbe (result : ProbeResult) : Keeps s (t.endProbe result) := by
  unfold State.endProbe
  split
  · exact h
  · refine report (modProbe (zeroFillSlot ?_ _) _) _
    split
    · exact h.writeDelay ..
    · exact h

theorem abortProbe (p : PortNo) (asReturn : Bool) : Keeps s (t.abortProbe p asReturn) := by
  unfold State.abortProbe
  split
  · exact ite (h.endProbe .aborted) h
  · exact h

theorem reportNeverRan (p : PortNo) : Keeps s (t.reportNeverRan p) := h.report _

theorem unqueueProbe (p : PortNo) : Keeps s (t.unqueueProbe p) :=
  ite ((h.modProbe _).reportNeverRan p) h

/-! ## The Health Monitor (10) -/

theorem closeLane (l : LaneNo) : Keeps s (t.closeLane l) := by
  unfold State.closeLane
  split
  · exact h
  · exact ite (h.modHealthRec l _) ((h.modHealthRec l _).report _)

theorem swapLead (p : PortNo) : Keeps s (t.swapLead p) := by
  unfold State.swapLead
  split
  · exact h
  · split
    · exact ite ((h.modPort' p).report _) h
    · exact h

theorem setGuard (p : PortNo) (guard : Bool) : Keeps s (t.setGuard p guard) := h.modPort' p

theorem autoGuard (p : PortNo) : Keeps s (t.autoGuard p) := by
  unfold State.autoGuard
  split
  · exact h
  · exact ite (((h.setGuard p true).report _).restatePort p) h

theorem judgePort (p : PortNo) : Keeps s (t.judgePort p) :=
  ite ((h.swapLead p).autoGuard p) h

theorem sweepUnit (before : State) (e : UnitEntry) : Keeps s (before.sweepUnit t e) :=
  ite (h.setUnits _) (ite (h.report _) (h.setUnits _))

theorem beginSweep : Keeps s t.beginSweep := h.same rfl

theorem sweep : Keeps s t.sweep := by
  unfold State.sweep
  dsimp only
  refine foldl (fun e hu => hu.sweepUnit t e) t.units (setUnits ?_ [])
  exact foldl (fun p hu => hu.judgePort p) _
    (foldl (fun l hu => hu.closeLane l) allLanes h).beginSweep

/-! ## Claims on the Crosspoint Table (03 section 3.2) -/

theorem entryChanged (src dst : PortNo) : Keeps s (t.entryChanged src dst) :=
  (((h.reassessDuck dst).refreshOnAir src).refreshTalkClaim src).refreshTalkClaim dst

end State.Keeps

end Sys2Proof.Machine
end

section
/-! PROOFS. The claim operations, the ports' commands, the mix pass, the Talk Arbiter, the panel lines
and the Table Writer keep the invariants. -/

namespace Sys2Proof.Machine

/-! ## The rows a claim operation writes (R29 to R31) -/

theorem ClaimsSound.append {claims : List Claim} (h : ClaimsSound claims) {c : Claim}
    (hlen : claims.length < 8) (hnew : ∀ x ∈ claims, x.origin ≠ c.origin) :
    ClaimsSound (claims ++ [c]) := by
  obtain ⟨-, -, hnodup⟩ := h
  refine ⟨by simp, by simpa using hlen, ?_⟩
  rw [List.map_append, List.nodup_append]
  refine ⟨hnodup, List.nodup_singleton _, fun a ha b hb => ?_⟩
  obtain ⟨x, hx, rfl⟩ := List.mem_map.mp ha
  rw [List.mem_singleton.mp hb]
  exact hnew x hx

/-- Claims changed in place, each with its origin kept. -/
theorem ClaimsSound.map {claims : List Claim} (h : ClaimsSound claims) {f : Claim → Claim}
    (hf : ∀ c, (f c).origin = c.origin) : ClaimsSound (claims.map f) := by
  obtain ⟨hpos, h8, hnodup⟩ := h
  refine ⟨by simpa using hpos, by simpa using h8, ?_⟩
  rwa [List.map_map, show Claim.origin ∘ f = Claim.origin from funext hf]

theorem ClaimsSound.filter {claims : List Claim} (h : ClaimsSound claims) (p : Claim → Bool)
    (hne : claims.filter p ≠ []) : ClaimsSound (claims.filter p) := by
  obtain ⟨-, h8, hnodup⟩ := h
  exact ⟨List.length_pos_of_ne_nil hne, (List.length_filter_le p claims).trans h8,
    hnodup.sublist (List.filter_sublist.map Claim.origin)⟩

theorem State.mem_of_entry? {s : State} {src dst : PortNo} {e : Entry}
    (h : s.entry? src dst = some e) : e ∈ s.into dst ∧ e.source = src :=
  ⟨List.mem_of_find?_eq_some h, by simpa using List.find?_some h⟩

theorem RowSound.append {d : PortNo} {es : List Entry} (h : RowSound d es) {e : Entry}
    (hlen : es.length < 32) (hnew : ∀ x ∈ es, x.source ≠ e.source) (hd : e.source ≠ d)
    (he : e.Sound) : RowSound d (es ++ [e]) := by
  obtain ⟨-, hnodup, hall⟩ := h
  refine ⟨by simpa using hlen, ?_, fun x hx => ?_⟩
  · rw [List.map_append, List.nodup_append]
    refine ⟨hnodup, List.nodup_singleton _, fun a ha b hb => ?_⟩
    obtain ⟨x, hx, rfl⟩ := List.mem_map.mp ha
    rw [List.mem_singleton.mp hb]
    exact hnew x hx
  · obtain hx | hx := List.mem_append.mp hx
    · exact hall x hx
    · rw [List.mem_singleton.mp hx]
      exact ⟨hd, he⟩

theorem Entry.sound_of_oneClaim (src : PortNo) (c : Claim) (st : EntryState) :
    Entry.Sound ⟨src, [c], c.level, c.cls, st⟩ := by
  simp [Entry.Sound]

namespace State.Keeps

variable {s t : State} (h : Keeps s t)
include h

/-! ## Claims on the Crosspoint Table (03 section 3.2) -/

/-- The entry of a pair gets claims that are sound where the entry's were. -/
theorem setClaims (src dst : PortNo) {e : Entry} {claims : List Claim}
    (he : t.entry? src dst = some e) (hc : ClaimsSound e.claims → ClaimsSound claims) :
    Keeps s (t.setClaims src dst claims) :=
  h.setInto dst
    (fun hrow => hrow.setClaims src (hc (hrow.2.2 e (mem_of_entry? he).1).2.claimsSound))
    (.inl (by simp))

theorem placeClaim (src dst : PortNo) (origin : Origin) (level : Nat) (cls : XpClass) :
    Keeps s (t.placeClaim src dst origin level cls).1 := by
  unfold State.placeClaim
  dsimp only
  split
  · exact h
  split
  · exact h
  next hself _ =>
  split
  · next e he =>
    split
    · refine (h.setClaims src dst he fun hc => hc.map fun c => ?_).entryChanged src dst
      split
      · exact (‹c.origin = origin›).symm
      · rfl
    · next horigin =>
      split
      · exact h
      · next hlen =>
        refine (h.setClaims src dst he fun hc => hc.append (by omega) ?_).entryChanged src dst
        simpa [Entry.hasOrigin] using horigin
  · next hnone =>
    split
    · exact h
    · next hroom =>
      have hnew : ∀ x ∈ t.into dst, x.source ≠ src := by
        simpa [State.entry?, List.find?_eq_none] using hnone
      refine (h.setInto dst (fun hrow => hrow.append (by omega) hnew hself
        (Entry.sound_of_oneClaim src ⟨origin, level, cls⟩ _)) (.inr ?_)).entryChanged src dst
      simp only [List.length_append, List.length_singleton]
      omega

theorem withdrawClaim (src dst : PortNo) (origin : Origin) :
    Keeps s (t.withdrawClaim src dst origin) := by
  unfold State.withdrawClaim
  split
  · exact h
  next e he =>
  split
  · dsimp only
    split
    · exact (h.setInto dst (·.filter _) (.inl (List.length_filter_le _ _))).entryChanged src dst
    · next hne =>
      exact (h.setClaims src dst he fun hc =>
        hc.filter _ (by simpa using hne)).entryChanged src dst
  · exact h

theorem changeClaimLevel (id : TalkId) (level : Nat) (pair : PortNo × PortNo) :
    Keeps s (t.changeClaimLevel id level pair) := by
  unfold State.changeClaimLevel
  split
  · exact h
  next e he =>
  split
  · refine (h.setClaims _ _ he fun hc => hc.map fun c => ?_).entryChanged _ _
    split <;> rfl
  · exact h

theorem changeLevels (id : TalkId) (level : Nat) (pairs : List (PortNo × PortNo)) :
    Keeps s (t.changeLevels id level pairs) :=
  foldl (fun pair hu => hu.changeClaimLevel id level pair) _ h

theorem modJobServed (f : Job → Job) : Keeps s (t.modJobServed f) := h.modWriter _

theorem performOp (op : ClaimOp) : Keeps s (t.performOp op).1 := by
  cases op with
  | place => exact h.placeClaim ..
  | withdraw => exact h.withdrawClaim ..
  | levelChange => exact h.changeLevels ..

theorem serveOp (op : ClaimOp) : Keeps s (t.serveOp op) := (h.performOp op).modJobServed _

/-! ## The Port Table (02) -/

theorem removeCancel (p : PortNo) : Keeps s (t.removeCancel p) := by
  unfold State.removeCancel
  split
  · exact (h.modSlot _ id).modPort' p
  · exact h

theorem leaveClass (p : PortNo) : Keeps s (t.leaveClass p) := by
  unfold State.leaveClass
  dsimp only
  split
  · exact (h.modBuffer _ _).modPort' p
  · exact h.modPort' p

/-- A port at its reset record, with its Duck Unit. -/
theorem resetPort (p : PortNo) :
    Keeps s { t.modPort p (fun _ => {}) with ducks := t.ducks.set p {} } :=
  h.setDuckPort p (x := ({}, {})) fun _ => by
    simp [DuckPortSound, Duck.Sound, DuckProfile.Sound]

theorem enterClass (p : PortNo) (cls : PortClass) : Keeps s (t.enterClass p cls) := by
  cases cls with
  | remote =>
    unfold State.enterClass
    dsimp only
    split
    · exact (h.modBuffer _ _).modPort' p
    · exact h
  | unused =>
    have hducks : t.ducks = (t.removeCancel p).ducks := by
      unfold State.removeCancel
      split <;> rfl
    unfold State.enterClass
    dsimp only
    rw [hducks]
    exact (h.removeCancel p).resetPort p
  | panel | earpiece | feed =>
    unfold State.enterClass
    exact h.modPort' p

theorem loseReturn (gone p : PortNo) : Keeps s (t.loseReturn gone p) :=
  ite (((h.modPort' p).abortProbe p false).unqueueProbe p) h

theorem changeClass (p : PortNo) (cls : PortClass) : Keeps s (t.changeClass p cls) :=
  have h1 := (h.leaveClass p).enterClass p cls
  ite (foldl (fun q hu => hu.loseReturn p q) _ h1) h1

theorem setProfile (p : PortNo) {profile : DuckProfile} (hp : profile.Sound) :
    Keeps s (t.setProfile p profile) := by
  unfold State.setProfile
  split
  · next hopen =>
    refine onDuck (h.modPort p fun hd => ?_) p fun es _ => duckReassessOpen_sound es
    obtain ⟨⟨-, hhi, h1024⟩, -⟩ := hd
    exact ⟨⟨h1024 hopen ▸ hp, hhi, h1024⟩, hp, by simp⟩
  · refine h.modPort p fun hd => ?_
    obtain ⟨hunit, hprofile, -⟩ := hd
    exact ⟨hunit, hprofile, by simpa using hp⟩

theorem changeCancel (p : PortNo) (c : CancelSection) (level : Nat) (source : Option PortNo) :
    Keeps s (t.changeCancel p c level source) :=
  have h1 := h.modPort' p
  have h2 := h1.ite (c := source = c.returnSource) (h1.abortProbe p false)
  ite (h2.unqueueProbe p) h2

theorem newCancel (p : PortNo) (k : SlotNo) (level : Nat) (source : Option PortNo) :
    Keeps s (t.newCancel p k level source) :=
  (h.modSlot k fun _ => ⟨List.Pairwise.nil, by simp⟩).modPort' p

theorem unbindLane (l : LaneNo) : Keeps s (t.unbindLane l) := (h.enterOff l).modLane l _

theorem bindLane (p : PortNo) (l : LaneNo) : Keeps s (t.bindLane p l) :=
  ite ((h.modLane l _).enterSeek l) (h.modLane l _)

theorem rebindLanes (p : PortNo) (b : LaneBinding) : Keeps s (t.rebindLanes p b) := by
  unfold State.rebindLanes
  dsimp only
  exact foldl (fun l hu => hu.bindLane p l) _
    ((foldl (fun l hu => hu.unbindLane l) _ h).modPort' p)

/-! ## The mix pass and the frame boundary (03 section 3.6, 01 R9) -/

theorem recordSlots (x : Table 64 Sample) : Keeps s (t.recordSlots x) := by
  refine h.trans { refl t with cancel := fun hc k => ?_ }
  simp only [State.recordSlots, State.slot, Table.get_map]
  split
  · exact recordSample_sound (Nat.mod_lt _ (by norm_num)) _ (hc k)
  · exact hc k

theorem putOutputs (x : Table 64 Sample) : Keeps s (t.putOutputs x) := h.same rfl

theorem countClip (d : PortNo) : Keeps s (t.countClip d) :=
  have h1 := h.modPort' d
  h1.ite (h1.report _)

theorem advanceDucks : Keeps s t.advanceDucks := by
  refine h.trans { refl t with ducks := fun hd p => ?_ }
  have hp : DuckPortSound (if (t.port p).cls = .unused then (t.port p, t.duck p)
      else duckAdvance (t.into p) (t.port p, t.duck p)) := by
    split
    · exact hd p
    · exact duckAdvance_sound _ (hd p)
  simpa only [State.advanceDucks, State.duck, State.port, Table.get_tabulate, DuckPortSound] using hp

theorem nextPeriod : Keeps s t.nextPeriod := h.trans { refl t with timing := id }

theorem mixPass (inputs : Table 64 (BitVec 24)) : Keeps s (t.mixPass inputs) := by
  unfold State.mixPass
  dsimp only
  exact (foldl (fun d hu => hu.countClip d) _
    ((h.recordSlots _).putOutputs _)).advanceDucks.modProbe _

theorem completeFrame : Keeps s t.completeFrame := h.same rfl

theorem countBarred : Keeps s t.countBarred := h.same rfl

theorem frameBoundary : Keeps s t.frameBoundary := by
  unfold State.frameBoundary
  exact foldl (fun k hu => hu.playBuffer k) _
    (foldl (fun l hu => hu.sendAtBoundary l) _ (h.modTiming id).completeFrame.countBarred)

/-! ## The Talk Arbiter (07) -/

theorem refreshCalls (ports : List PortNo) : Keeps s (t.refreshCalls ports) :=
  foldl (fun p hu => hu.refreshLocalCall p) _ h

theorem decideEnd (id : TalkId) (reason : EndReason) : Keeps s (t.decideEnd id reason) := by
  unfold State.decideEnd
  split
  · exact h
  split
  · exact ite (((h.modTalk id _).modArbiter _).refreshCalls _) ((h.modTalk id _).modArbiter _)
  · exact h.modTalk id _
  · exact h

theorem dropTalk (x : Talk) : Keeps s (t.dropTalk x) := by
  unfold State.dropTalk
  dsimp only
  split
  · exact (h.decideEnd ..).modKey _ _
  · exact h.decideEnd ..

theorem issueEnd : Keeps s t.issueEnd := by
  unfold State.issueEnd
  split
  · exact h
  · exact (h.modArbiter _).submitTalk ..

theorem reportBegin (id : TalkId) : Keeps s (t.reportBegin id) := by
  unfold State.reportBegin
  split
  · exact h.report _
  · exact h

theorem createTalk (id : TalkId) (maker : Maker) (f : KeyFunction) (talking : PortNo)
    (target : Target) (level : Nat) (cls : XpClass) :
    Keeps s (t.createTalk id maker f talking target level cls) := by
  unfold State.createTalk
  dsimp only
  split
  · exact (((foldl (fun p hu => hu.wakePort p) _ (h.modArbiter _)).modTalk id _).refreshCalls
      _).reportBegin id
  · exact ((foldl (fun p hu => hu.wakePort p) _ (h.modArbiter _)).modArbiter _).submitTalk ..

theorem finishRecord (l : LineNo) : Keeps s (t.finishRecord l) :=
  (h.modKeyQueue l KeyQueue.Sound.removeHead).modArbiter _

theorem refuseKey (k : KeyId) (reason : TalkRefusal) : Keeps s (t.refuseKey k reason) :=
  (h.report _).finishRecord k.line

theorem beginKey (k : KeyId) (r : KeyRecord) (st : KeyState) : Keeps s (t.beginKey k r st) := by
  unfold State.beginKey
  dsimp only
  split
  · exact h.finishRecord _
  · exact h.finishRecord _
  split
  · exact h.refuseKey ..
  refine ite (h.refuseKey ..) ?_
  split
  · exact h.refuseKey ..
  · exact ite (((h.modKey k _).createTalk ..).finishRecord _) ((h.modKey k _).createTalk ..)

theorem obeyVerdict (k : KeyId) (r : KeyRecord) (v : KeyVerdict) :
    Keeps s (t.obeyVerdict k r v) := by
  cases v with
  | begins st => exact h.beginKey k r st
  | ends st =>
    unfold State.obeyVerdict
    dsimp only
    refine finishRecord ?_ _
    split
    · exact (h.modKey k _).decideEnd ..
    · exact h.modKey k _
  | moves st => exact (h.modKey k _).finishRecord _

theorem takeRelease (k : KeyId) (r : KeyRecord) : Keeps s (t.takeRelease k r) := by
  unfold State.takeRelease
  dsimp only
  split
  · exact h.obeyVerdict ..
  · exact ite (h.useFree.obeyVerdict ..) (h.obeyVerdict ..)

theorem takeLevel (k : KeyId) (step : Byte) : Keeps s (t.takeLevel k step) := by
  unfold State.takeLevel
  split
  · exact ite (((h.modTalk _ _).modArbiter _).submitTalk ..) (h.finishRecord _)
  · exact h.finishRecord _

theorem takeRecord (l : LineNo) (r : KeyRecord) : Keeps s (t.takeRecord l r) := by
  have h1 (f : Arbiter → Arbiter) := (h.modKeyQueue l (f := fun q =>
    { q with headInService := true }) id).modArbiter f
  unfold State.takeRecord
  dsimp only
  split
  · exact (h1 _).obeyVerdict ..
  · exact (h1 _).takeRelease ..
  · exact (h1 _).takeLevel ..

theorem takeGroupSet (g : GroupNo) (new : List PortNo) : Keeps s (t.takeGroupSet g new) := by
  unfold State.takeGroupSet
  dsimp only
  exact ite ((foldl (fun x hu => hu.dropTalk x) _ (h.modArbiter _)).submitHost ..)
    ((h.modArbiter _).submitHost ..)

theorem takeTalkForce (number : HostTalkNo) (f : KeyFunction) (source : PortNo)
    (target : Target) (level : Nat) (cls : XpClass) :
    Keeps s (t.takeTalkForce number f source target level cls) := by
  unfold State.takeTalkForce
  refine ite (h.endService ..) (ite (h.endService ..) ?_)
  split
  · exact h.endService ..
  · exact ite ((h.createTalk ..).endService ..) ((h.createTalk ..).modArbiter _)

theorem takeTalkDrop (w : HostWork) (x : Option Talk) : Keeps s (t.takeTalkDrop w x) := by
  unfold State.takeTalkDrop
  cases x with
  | none => exact h.endService ..
  | some x => exact ite (h.endService ..) ((h.dropTalk x).modArbiter _).issueEnd

theorem takeHost (w : HostWork) : Keeps s (t.takeHost w) := by
  have h1 (f : Arbiter → Arbiter) := h.modArbiter f
  cases w with
  | talkForce => exact (h1 _).takeTalkForce ..
  | dropHostTalk => exact (h1 _).takeTalkDrop ..
  | dropTalk => exact (h1 _).takeTalkDrop ..
  | groupSet => exact (h1 _).takeGroupSet ..

theorem completeBegin (id : TalkId) (results : List PlaceResult) :
    Keeps s (t.completeBegin id results) := by
  have h2 (f : Talk → Talk) := (h.modTalk id f).reportBegin id
  unfold State.completeBegin
  dsimp only
  split
  · refine decideEnd ?_ ..
    split
    · exact (h2 _).finishRecord _
    · exact ((h2 _).endService ..).modArbiter _
    · exact h2 _
  · split
    · exact (h2 _).finishRecord _
    · exact ((h2 _).endService ..).modArbiter _
    · exact h2 _

theorem completeEnd (id : TalkId) : Keeps s (t.completeEnd id) := by
  have h2 (f : Arbiter → Arbiter) (u : Option Talk) : Keeps s (match u with
      | some x => (t.modArbiter f).report (.talkEnd x.id x.maker (x.endReason.getD .key))
      | none => t.modArbiter f) := by
    cases u with
    | none => exact h.modArbiter f
    | some x => exact (h.modArbiter f).report _
  unfold State.completeEnd
  dsimp only
  split
  · exact ((h2 _ _).endService ..).modArbiter _
  · exact h2 _ _

theorem completeEdit (g : GroupNo) (old : List PortNo) (results : List PlaceResult) :
    Keeps s (t.completeEdit g old results) := by
  unfold State.completeEdit
  dsimp only
  refine modArbiter (endService (h.ite (refreshCalls ?_ _)) ..) _
  exact ite (foldl (fun p hu => hu.wakePort p) _ (h.modArbiter _)) (h.modArbiter _)

theorem completeLevel : Keeps s t.completeLevel := by
  unfold State.completeLevel
  split
  · exact h.finishRecord _
  · exact h

theorem panelGone (l : LineNo) (a : PanelAddr) (reason : EndReason) :
    Keeps s (t.panelGone l a reason) := by
  unfold State.panelGone
  dsimp only
  exact foldl (fun k hu => hu.modKey _ _) _ (foldl (fun x hu => hu.decideEnd ..) _ h)

theorem echoKey (held : BitVec 32) (l : LineNo) (a : PanelAddr) (n : KeyNo) :
    Keeps s (State.echoKey held l a t n) := by
  unfold State.echoKey
  refine h.ite ?_
  split
  · dsimp only
    split
    · exact (h.modKey _ _).decideEnd ..
    · exact h.modKey _ _
  · exact h.modKey _ _
  · exact h
  · exact h

theorem echo (l : LineNo) (a : PanelAddr) (held : BitVec 32) : Keeps s (t.echo l a held) :=
  foldl (fun n hu => hu.echoKey held l a n) _ h

/-! ## The panel lines (06) -/

theorem offerRecord (l : LineNo) (r : KeyRecord) : Keeps s (t.offerRecord l r) := by
  unfold State.offerRecord
  dsimp only
  split
  · exact h.modKeyQueue l (·.append ‹_›)
  · exact ite (h.modKeyQueue l id) ((h.modKeyQueue l id).report _)

theorem takeKeyFrame (l : LineNo) (a : PanelAddr) (f : KeyFrame) :
    Keeps s (State.takeKeyFrame l a t f) := ite (h.offerRecord ..) h

theorem miss (l : LineNo) (a : PanelAddr) : Keeps s (t.miss l a) :=
  ite (ite (h.modPanel l a _) ((((h.report _).modPanel l a _).modKeyQueue l
    (KeyQueue.Sound.purge · a)).panelGone ..)) h

theorem settlePresence (l : LineNo) (a : PanelAddr) : Keeps s (t.settlePresence l a) :=
  ite (h.modPanel l a _) ((h.modPanel l a _).report _)

theorem offerHeld (l : LineNo) (a : PanelAddr) (held : BitVec 32) :
    Keeps s (t.offerHeld l a held) := ite (h.modPanel l a _) ((h.modPanel l a _).echo ..)

theorem tally (l : LineNo) (a : PanelAddr) : Keeps s (t.tally l a) :=
  ite ((h.modPanel l a _).modLine l _) h

theorem goodAnswer (l : LineNo) (a : PanelAddr) (ans : Answer) : Keeps s (t.goodAnswer l a ans) :=
  ((foldl (fun f hu => hu.takeKeyFrame l a f) _ (h.settlePresence l a)).offerHeld ..).tally ..

theorem badAnswer (l : LineNo) (a : PanelAddr) : Keeps s (t.badAnswer l a) :=
  (h.modLine l _).miss l a

theorem endPoll (l : LineNo) {f : State → PanelAddr → State}
    (hf : ∀ {u} a, Keeps s u → Keeps s (f u a)) : Keeps s (t.endPoll l f) := by
  unfold State.endPoll
  split
  · exact h
  · exact ite (h.modLine l _) (hf _ (h.modLine l _))

theorem relist (old new : BitVec 16) (l : LineNo) (a : PanelAddr) :
    Keeps s (State.relist old new l t a) :=
  h.ite (ite (h.modPanel l a _) ((((h.modPanel l a _).modLine l _).modKeyQueue l
    (KeyQueue.Sound.purge · a)).panelGone ..))

/-! ## The Table Writer (03 sections 3.3 and 3.8) -/

theorem takeJob : Keeps s t.takeJob := by
  unfold State.takeJob
  split
  · exact h.modWriter _
  · split
    · exact (h.modWriter _).endService ..
    · exact h.modWriter _
  · exact h

theorem completeJob (j : Job) : Keeps s (t.completeJob j) := by
  have hdone : Keeps s (t.modArbiter fun a => { a with jobInFlight := none }) := h.modArbiter _
  unfold State.completeJob
  dsimp only
  split
  · exact hdone.completeBegin ..
  · exact hdone.completeEnd ..
  · exact hdone.completeLevel
  · exact hdone.completeEdit ..
  · split
    · exact h.endService ..
    · exact h
  · exact h.endService ..
  · exact h

theorem freeWriter : Keeps s t.freeWriter := h.modWriter _

theorem serveHead (p : ClaimOp → Bool) : Keeps s (t.serveHead p) := by
  unfold State.serveHead
  split
  · split
    · exact ite (h.serveOp _) h
    · exact h
  · exact h

theorem applyStaged (x : Nat × Staged) : Keeps s (t.applyStaged x) := by
  unfold State.applyStaged
  exact (h.placeClaim ..).modWriter _

theorem serveWaitingTalk : Keeps s t.serveWaitingTalk := by
  unfold State.serveWaitingTalk
  split
  · exact h
  · have h1 (j : Job) := foldl (f := State.serveOp) (fun op hu => hu.serveOp op) j.ops h
    dsimp only
    split
    · exact ((h1 _).modWriter _).completeJob _
    · exact h1 _

theorem finishCommit : Keeps s t.finishCommit := by
  unfold State.finishCommit
  exact (h.report _).modWriter _

theorem commitDestination (d : PortNo) : Keeps s (t.commitDestination d) := by
  have h2 {u : State} (hu : Keeps s u) (l : List (Nat × Staged)) :
      Keeps s (l.foldl State.applyStaged u) := foldl (fun x hu => hu.applyStaged x) l hu
  unfold State.commitDestination
  dsimp only
  have h1 := foldl (fun src hu => hu.withdrawClaim src d .fixed) (t.unstagedSources d) h
  split
  · exact (h2 h1 _).serveWaitingTalk.modWriter _
  · exact (h2 h1 _).finishCommit

end State.Keeps

end Sys2Proof.Machine
end

section
/-! PROOFS. Every command and every event is carried out under one of two guards, or is a reset or the
dispatch of a frame; each keeps the invariants. With it stand the statements about every step. -/

namespace Sys2Proof.Machine

open State (Keeps)

/-! ## The clock (01) -/

/-- The last 64 of a list no longer than 64, with one more: at most one more, and never past 64. -/
theorem length_keepRecent {recent : List Int} (offset : Int) (h : recent.length ≤ 64) :
    (keepRecent recent offset).length = min 64 (recent.length + 1) := by
  simp only [keepRecent, List.length_drop, List.length_append, List.length_singleton]
  omega

namespace State.Keeps

variable {s t : State} (h : Keeps s t)
include h

theorem probeLockChange (old new : LockState) : Keeps s (t.probeLockChange old new) :=
  ite (h.endProbe .clock) h

theorem announceLock (old : LockState) : Keeps s (t.announceLock old) :=
  (h.report _).probeLockChange ..

theorem judgeAcquire (hlock : t.timing.lock = .acquire) (good : Option Int) :
    Keeps s (t.judgeAcquire good) := by
  unfold State.judgeAcquire
  dsimp only
  split
  · next offset =>
    split
    · next hrun =>
      refine h.modTiming fun ht => ?_
      simp only [Timing.Sound, hlock] at ht ⊢
      obtain ⟨hsource, hheld, hgood, hlen⟩ := ht
      refine ⟨hsource, hheld, by omega, ?_⟩
      rw [length_keepRecent _ (by omega)]
      omega
    · next hrun =>
      refine announceLock (h.modTiming fun ht => ?_) _
      simp only [Timing.Sound, hlock] at ht ⊢
      obtain ⟨-, -, hgood, hlen⟩ := ht
      refine ⟨trivial, by omega, ?_, trivial⟩
      rw [length_keepRecent _ (by omega)]
      omega
  · refine h.modTiming fun ht => ?_
    simp only [Timing.Sound, hlock] at ht ⊢
    exact ⟨ht.1, ht.2.1, by omega, rfl⟩

theorem judgeLocked (hlock : t.timing.lock = .locked) (good : Option Int) :
    Keeps s (t.judgeLocked good) := by
  unfold State.judgeLocked
  dsimp only
  split
  · refine h.modTiming fun ht => ?_
    simp only [Timing.Sound, hlock] at ht ⊢
    obtain ⟨hsource, -, hlen, -⟩ := ht
    exact ⟨hsource, by omega, by rw [length_keepRecent _ (by omega)]; omega, trivial⟩
  · split
    · next hrun =>
      refine h.modTiming fun ht => ?_
      simp only [Timing.Sound, hlock] at ht ⊢
      obtain ⟨hsource, -, hlen, hheld⟩ := ht
      exact ⟨hsource, by omega, hlen, hheld⟩
    · refine announceLock (h.modTiming fun ht => ?_) _
      simp only [Timing.Sound, hlock] at ht ⊢
      simp [ht.2.2.2]

theorem judgeHoldover (hlock : t.timing.lock = .holdover) (good : Option Int) :
    Keeps s (t.judgeHoldover good) := by
  unfold State.judgeHoldover
  split
  · refine announceLock (h.modTiming fun ht => ?_) _
    simp only [Timing.Sound, hlock] at ht ⊢
    obtain ⟨hsource, hheld⟩ := ht
    simp [hsource, hheld]
  · exact h

/-! ## The control line (11) -/

theorem endFrame : Keeps s t.endFrame := by
  have h1 : Keeps s (t.modControl fun c => { c with tx := none }) := h.modControl id
  exact ite (h1.modControl id) h1.startTransmitter

end State.Keeps

/-- A byte received leaves at most 8 frames in a FIFO of at most 8 (R177). -/
theorem Control.fifo_rxByte {c : Control} (b : Byte) (h : c.fifo.length ≤ 8) :
    (c.rxByte b).fifo.length ≤ 8 := by
  unfold Control.rxByte
  dsimp only
  split
  · split <;> exact h
  · split <;> exact h
  · split
    · unfold Control.judgeBytes
      dsimp only
      split
      · split
        · next hroom => simpa using hroom.2
        · exact h
      · exact h
    · exact h

theorem Control.fifo_foldl_rxByte (bytes : List Byte) {c : Control} (h : c.fifo.length ≤ 8) :
    (bytes.foldl Control.rxByte c).fifo.length ≤ 8 := by
  induction bytes generalizing c with
  | nil => exact h
  | cons b bytes ih => exact ih (c.fifo_rxByte b h)

/-! ## The guards -/

/-- The command is an event or a host command of `exec`, and what it does where its guard lets it act keeps
the invariants. -/
def Guarded (i : Instr) : Prop :=
  ∃ f : State → State, (∀ s, Keeps s (f s)) ∧
    ((∀ s, exec i s = onEvent s f) ∨ ∀ s, exec i s = onCommand s f)

section
variable {i : Instr} {f : State → State}

theorem Guarded.event (hf : ∀ s, exec i s = onEvent s f)
    (hk : ∀ {s t : State}, Keeps s t → Keeps s (f t)) : Guarded i :=
  ⟨f, fun s => hk (.refl s), .inl hf⟩

theorem Guarded.command (hf : ∀ s, exec i s = onCommand s f)
    (hk : ∀ {s t : State}, Keeps s t → Keeps s (f t)) : Guarded i :=
  ⟨f, fun s => hk (.refl s), .inr hf⟩

theorem Guarded.of_held (h : Guarded i) {s : State} (hheld : s.resetHeld = true) :
    exec i s = .next s := by
  obtain ⟨f, -, hf | hf⟩ := h
  · exact (hf s).trans (onEvent_held s f hheld)
  · exact (hf s).trans (onCommand_waits s f (by simp [State.takesCommand, hheld]))

/-- A guarded command has a next state, which keeps the invariants. -/
theorem Guarded.next (h : Guarded i) (s : State) : ∃ t, exec i s = .next t ∧ Keeps s t := by
  obtain ⟨f, hk, hf | hf⟩ := h
  · exact ⟨_, hf s, .ite (.refl s) (hk s)⟩
  · exact ⟨_, hf s, .ite (hk s) (.refl s)⟩

end

end Sys2Proof.Machine
end

section
/-! PROOFS. Each command and event is guarded; the resets and the dispatch of a frame stand apart. With
this stand the statements about every step (O2, O3, O56, O57, O59). -/

namespace Sys2Proof.Machine

open State (Keeps)

/-! ## The events, block by block -/

section
open State.Keeps

theorem guarded_clockEvent (p : RefPeriod) : Guarded (.referencePeriodJudgement p) :=
  .event (fun _ => rfl) fun h => by
    refine ite ?_ h
    split
    · exact h
    · exact h.judgeAcquire ‹_› _
    · exact h.judgeLocked ‹_› _
    · exact h.judgeHoldover ‹_› _

theorem guarded_mixPass (inputs : Table 64 (BitVec 24)) : Guarded (.mixPass inputs) :=
  .event (fun _ => rfl) fun h => (h.mixPass inputs).nextPeriod

theorem guarded_frameBoundary : Guarded .frameBoundary :=
  .event (fun _ => rfl) fun h => ite h.frameBoundary h

theorem guarded_holdExpiry (p : PortNo) : Guarded (.holdExpiry p) :=
  .event (fun _ => rfl) fun h => ite (h.onDuck p fun es _ => duckHoldExpire_sound es) h

theorem guarded_controlFrameReceived (bytes : List Byte) :
    Guarded (.controlFrameReceived bytes) :=
  .event (fun _ => rfl) fun h => h.modControl (Control.fifo_foldl_rxByte bytes)

theorem guarded_lineGapTimeout : Guarded .lineGapTimeout :=
  .event (fun _ => rfl) fun h => h.modControl fun hb => by
    split <;> exact hb

theorem guarded_lengthOutOfRange (length : Byte) : Guarded (.lengthOutOfRange length) :=
  .event (fun _ => rfl) fun h => h.modControl fun hb => by
    split
    · split <;> exact hb
    · exact hb
    · exact hb

theorem guarded_transmitComplete : Guarded .transmitComplete :=
  .event (fun _ => rfl) fun h => ite h.endFrame h

/-- RESTART leaves tables and queues at their reset values, and the timing unit and the FIFO as they
are. -/
theorem keeps_restarted (s : State) : Keeps s s.restarted where
  pending := rfl
  crosspoints _ := by
    refine ⟨(by decide : ({} : State).entryCount ≤ 1024), fun d => ?_⟩
    have hd : s.restarted.into d = [] := Table.get_replicate [] d
    simp [hd]
  ducks _ p := by
    have hduck : s.restarted.duck p = {} :=
      Table.get_replicate ({} : Duck) p
    have hport : s.restarted.port p = {} :=
      Table.get_replicate ({} : Port) p
    rw [hduck, hport]
    simp [Duck.Sound, DuckProfile.Sound]
  keyQueues _ l := by
    have hl : s.restarted.keyQueue l = {} :=
      Table.get_replicate ({} : KeyQueue) l
    rw [hl]
    simp [KeyQueue.Sound]
  cancel _ k := by
    have hk : s.restarted.slot k = {} :=
      Table.get_replicate ({} : CancelSlot) k
    rw [hk]
    simp [CancelSlot.Sound]
  reports _ := Nat.zero_le _
  fifo := id
  timing := id

theorem guarded_restartTakeEffect : Guarded .restartTakeEffect :=
  .event (fun _ => rfl) fun h => ite ((h.trans (keeps_restarted _)).report _) h

theorem guarded_writerEvents :
    Guarded .jobTake ∧ Guarded .claimPlace ∧ Guarded .claimWithdraw ∧ Guarded .claimLevelChange ∧
      Guarded .writeJobComplete ∧ Guarded .commitDestination := by
  refine ⟨.event (fun _ => rfl) fun h => ite h.takeJob h,
    .event (fun _ => rfl) fun h => h.serveHead _, .event (fun _ => rfl) fun h => h.serveHead _,
    .event (fun _ => rfl) fun h => h.serveHead _, .event (fun _ => rfl) fun h => ?_,
    .event (fun _ => rfl) fun h => ite ?_ h⟩
  · split
    · exact ite (h.freeWriter.completeJob _) h
    · exact h
  · split
    · exact h.commitDestination _
    · exact h

theorem guarded_hostCommandTake : Guarded .hostCommandTake :=
  .event (fun _ => rfl) fun h => by
    split
    · exact h.takeHost _
    · exact h

theorem guarded_keyRecordTake : Guarded .keyRecordTake :=
  .event (fun _ => rfl) fun h => by
    refine ite ?_ h
    split
    · split
      · exact h.takeRecord ..
      · exact h
    · exact h

theorem guarded_endJobIssue : Guarded .endJobIssue :=
  .event (fun _ => rfl) fun h => ite h.issueEnd h

theorem guarded_longTimerExpiry (k : KeyId) : Guarded (.longTimerExpiry k) :=
  .event (fun _ => rfl) fun h => by
    split
    · exact ite (h.modKey k _) h
    · exact h

theorem guarded_poll (l : LineNo) : Guarded (.poll l) :=
  .event (fun _ => rfl) fun h => by
    split
    · exact (h.modPanel l _ _).modLine l _
    · exact h

theorem guarded_answer (l : LineNo) (bytes : List Byte) : Guarded (.answer l bytes) :=
  .event (fun _ => rfl) fun h => h.endPoll l fun a hu => by
    split
    · exact ite (hu.goodAnswer ..) (hu.badAnswer l a)
    · exact hu.badAnswer l a

theorem guarded_answerWindowExpiry (l : LineNo) : Guarded (.answerWindowExpiry l) :=
  .event (fun _ => rfl) fun h => h.endPoll l fun a hu => hu.miss l a

theorem guarded_answerBrokenOff (l : LineNo) : Guarded (.answerBrokenOff l) :=
  .event (fun _ => rfl) fun h => h.endPoll l fun a hu => hu.badAnswer l a

theorem guarded_probeStart : Guarded .probeStart :=
  .event (fun _ => rfl) fun {s t} h => by
    have h1 (f : Probe → Probe) (p : PortNo) := (h.modProbe f).reportNeverRan p
    split
    · refine ite ?_ h
      dsimp only
      split
      · exact ite (h1 _ _) ((h.modProbe _).modProbe _)
      · exact h1 _ _
    · exact h

theorem guarded_windowJudgement : Guarded .windowJudgement :=
  .event (fun _ => rfl) fun h => by
    split
    · exact ite (ite (ite (h.endProbe _) (h.modProbe _)) (ite (h.endProbe _) (h.modProbe _))) h
    · exact h

theorem guarded_gapExpiry : Guarded .gapExpiry :=
  .event (fun _ => rfl) fun h => by
    split
    · exact ite (h.modProbe _) h
    · exact h

theorem guarded_settleExpiry : Guarded .settleExpiry :=
  .event (fun _ => rfl) fun h => ite (h.modProbe _) h

theorem guarded_laneFrameReceived (l : LaneNo) (bytes : List Byte) :
    Guarded (.laneFrameReceived l bytes) :=
  .event (fun _ => rfl) fun h => by
    split
    · exact h
    · exact h
    · exact h.receiveFrame l bytes

theorem guarded_laneExpiries (l : LaneNo) :
    Guarded (.silenceExpiry l) ∧ Guarded (.handshakeTimeout l) ∧ Guarded (.wakeCountExpiry l) ∧
      Guarded (.barredCountExpiry l) :=
  ⟨.event (fun _ => rfl) fun h =>
      ite ((((h.modHealthRec l _).modLane l _).checkLoss l).sendIfFollowing l) h,
    .event (fun _ => rfl) fun h => ite (h.handshakeError l) h,
    .event (fun _ => rfl) fun h => ite ((h.report _).enterDoze l false) h,
    .event (fun _ => rfl) fun h => ite (h.enterSeek l) h⟩

theorem guarded_sweepExpiry : Guarded .sweepExpiry :=
  .event (fun _ => rfl) fun h => ite h.sweep h

/-! ## The host commands, block by block -/

theorem guarded_lineCommands (tag : Byte) (identity : Ident) :
    Guarded (.identify tag) ∧ Guarded (.lineGet tag) ∧ Guarded (.restart tag) ∧
      Guarded (.stationIdSet tag identity) :=
  ⟨.command (fun _ => rfl) fun h => h.reply ..,
    .command (fun _ => rfl) fun h => (h.reply ..).modControl id,
    .command (fun _ => rfl) fun h => (h.modControl id).reply ..,
    .command (fun _ => rfl) fun h =>
      (h.setStationId identity).reply ..⟩

theorem guarded_clockSetReference (tag : Byte) : Guarded (.clockSetReference tag) :=
  .command (fun _ => rfl) fun h => by
    refine ite (announceLock ((h.reply ..).modTiming fun _ => ?_) _) (h.reply ..)
    simp [Timing.Sound]

theorem guarded_clockSetFree (tag : Byte) : Guarded (.clockSetFree tag) :=
  .command (fun _ => rfl) fun h => by
    refine ite (h.reply ..) (announceLock ((h.reply ..).modTiming fun _ => ?_) _)
    simp [Timing.Sound]

theorem guarded_clockGet (tag : Byte) : Guarded (.clockGet tag) :=
  .command (fun _ => rfl) fun h => (h.reply ..).modTiming id

theorem guarded_portSetClass (tag port cls : Byte) : Guarded (.portSetClass tag port cls) :=
  .command (fun _ => rfl) fun h => by
    split
    · exact ite (h.reply ..) (ite (h.reply ..) (ite (h.reply ..) ((h.reply ..).changeClass ..)))
    · exact h.reply ..

theorem guarded_portSetLevels (tag port : Byte) (trim master : Half) :
    Guarded (.portSetLevels tag port trim master) :=
  .command (fun _ => rfl) fun h => by
    split
    · exact (h.modPort' _).reply ..
    · exact h.reply ..

theorem guarded_portSetIsolate (tag port onOff : Byte) :
    Guarded (.portSetIsolate tag port onOff) :=
  .command (fun _ => rfl) fun {s t} h => by
    have h1 : Keeps s (t.portSetReply tag .ok) := h.reply ..
    split
    · exact ite (h.reply ..) (h1.ite (ite (((h1.modPort' _).restatePort _).abortProbe _ true)
        ((h1.modPort' _).restatePort _)))
    · exact h.reply ..

theorem guarded_portSetDuck (tag port threshold : Byte) (depth attack hold release : Half) :
    Guarded (.portSetDuck tag port threshold depth attack hold release) :=
  .command (fun _ => rfl) fun h => by
    split
    · refine ite (h.reply ..) (reply (h.setProfile _ ?_) ..)
      simp [DuckProfile.Sound, clampTo_zero]
    · exact h.reply ..

theorem guarded_portSetCancel (tag port : Byte) (level : Half) (returnSource : Byte) :
    Guarded (.portSetCancelOn tag port level returnSource) ∧
      Guarded (.portSetCancelOff tag port) := by
  refine ⟨.command (fun _ => rfl) fun h => ?_, .command (fun _ => rfl) fun {s t} h => ?_⟩
  · split
    · refine ite (h.reply ..) (ite (h.reply ..) ?_)
      split
      · exact changeCancel (h.reply ..) ..
      · split
        · exact (h.newCancel ..).reply ..
        · exact h.reply ..
    · exact h.reply ..
  · have h1 : Keeps s (t.portSetReply tag .ok) := h.reply ..
    split
    · dsimp only
      split
      · exact ((h1.removeCancel _).unqueueProbe _).abortProbe ..
      · exact h1
    · exact h.reply ..

theorem guarded_portSetPanel (tag port line addr : Byte) :
    Guarded (.portSetPanel tag port line addr) :=
  .command (fun _ => rfl) fun h => by
    split
    · exact ite (h.reply ..) (ite (h.reply ..) (ite (h.reply ..) ((h.modPort' _).reply ..)))
    · exact h.reply ..

theorem guarded_portSetLanes (tag port primary backup : Byte) (identity : Option Ident)
    (depth : Byte) : Guarded (.portSetLanes tag port primary backup identity depth) :=
  .command (fun _ => rfl) fun h => by
    split
    · refine ite (h.reply ..) ?_
      split
      · exact ite (h.reply ..) (rebindLanes (h.reply ..) ..)
      · exact h.reply ..
    · exact h.reply ..

theorem guarded_portGet (tag port : Byte) : Guarded (.portGet tag port) :=
  .command (fun _ => rfl) fun h => by
    split
    · exact (h.reply ..).modPort' _
    · exact h.reply ..

theorem guarded_crosspointCommands (tag src dst : Byte) (level : Half) (cls : Byte) :
    Guarded (.xpSet tag src dst level cls) ∧ Guarded (.xpClear tag src dst) ∧
      Guarded (.xpList tag dst src) := by
  refine ⟨.command (fun _ => rfl) fun h => ?_, .command (fun _ => rfl) fun h => ?_,
    .command (fun _ => rfl) fun h => ?_⟩
  · split
    · exact ite (h.reply ..) (ite (h.reply ..) (ite (h.reply ..)
        ((h.beginService ..).submitHost ..)))
    · exact h.reply ..
  · split
    · exact ite (h.reply ..) (ite (h.reply ..) ((h.beginService ..).submitHost ..))
    · exact h.reply ..
  · split <;> exact h.reply ..

theorem guarded_sceneCommands (tag src dst : Byte) (level : Half) (cls : Byte) :
    Guarded (.sceneBegin tag) ∧ Guarded (.sceneAbandon tag) ∧
      Guarded (.sceneEntry tag src dst level cls) ∧ Guarded (.sceneCommit tag) := by
  refine ⟨.command (fun _ => rfl) fun h => ite (h.reply ..) ((h.modWriter _).reply ..),
    .command (fun _ => rfl) fun h => ite (h.reply ..) ((h.modWriter _).reply ..),
    .command (fun _ => rfl) fun h => ?_,
    .command (fun _ => rfl) fun h => ite (h.reply ..) ((h.beginService ..).submitHost ..)⟩
  split
  · refine ite (h.reply ..) ?_
    split
    · exact (h.modWriter _).reply ..
    · exact h.reply ..
  · exact h.reply ..

theorem guarded_groupCommands (tag group : Byte) (members : List Byte) :
    Guarded (.groupSet tag group members) ∧ Guarded (.groupGet tag group) := by
  refine ⟨.command (fun _ => rfl) fun h => ?_, .command (fun _ => rfl) fun h => ?_⟩
  · split
    · exact ite (h.reply ..) (ite (h.reply ..) ((h.beginService ..).modArbiter _))
    · exact h.reply ..
  · split <;> exact h.reply ..

theorem guarded_keySet (tag line addr key function targetKind target : Byte) (level : Half)
    (cls mode : Byte) :
    Guarded (.keySet tag line addr key function targetKind target level cls mode) :=
  .command (fun _ => rfl) fun h => by
    split
    · exact (h.modKey _ _).reply ..
    · exact h.reply ..

theorem guarded_keyGet (tag line addr key : Byte) : Guarded (.keyGet tag line addr key) :=
  .command (fun _ => rfl) fun h => by
    split <;> exact h.reply ..

theorem guarded_talkForce (tag number function src targetKind target : Byte) (level : Half)
    (cls : Byte) : Guarded (.talkForce tag number function src targetKind target level cls) :=
  .command (fun _ => rfl) fun h => by
    split
    · exact ite (h.reply ..) ((h.beginService ..).modArbiter _)
    · exact h.reply ..

theorem guarded_talkDrop (tag selector number : Byte) : Guarded (.talkDrop tag selector number) :=
  .command (fun _ => rfl) fun h => by
    split
    · exact (h.beginService ..).modArbiter _
    · exact (h.beginService ..).modArbiter _
    · exact h.reply ..

theorem guarded_talkList (tag start : Byte) : Guarded (.talkList tag start) :=
  .command (fun _ => rfl) fun h => h.reply ..

theorem guarded_pollSet (tag line : Byte) (marks : BitVec 16) :
    Guarded (.pollSet tag line marks) :=
  .command (fun _ => rfl) fun h => by
    split
    · exact foldl (fun a hu => hu.relist _ marks _ a) allAddrs ((h.reply ..).modLine _ _)
    · exact h.reply ..

theorem guarded_filterSet (tag line : Byte) (filter : FilterArg) :
    Guarded (.filterSet tag line filter) :=
  .command (fun _ => rfl) fun h => by
    split
    · exact (h.modLine _ _).reply ..
    · exact (h.modLine _ _).reply ..
    · exact h.reply ..

theorem guarded_panelGet (tag line addr : Byte) : Guarded (.panelGet tag line addr) :=
  .command (fun _ => rfl) fun h => by
    split
    · exact (h.reply ..).modLine _ _
    · exact h.reply ..

theorem guarded_queueGet (tag line : Byte) : Guarded (.queueGet tag line) :=
  .command (fun _ => rfl) fun h => by
    split <;> exact h.reply ..

theorem guarded_probe (tag port : Byte) (settings : Option (BitVec 24 × BitVec 24)) :
    Guarded (.probe tag port settings) :=
  .command (fun _ => rfl) fun h => by
    dsimp only
    split
    · exact h.reply ..
    · exact (h.modProbe _).reply ..
    · exact ite (h.reply ..) (ite (h.reply ..) (ite (h.reply ..) ((h.modProbe _).reply ..)))

theorem guarded_probeCancel (tag port : Byte) : Guarded (.probeCancel tag port) :=
  .command (fun _ => rfl) fun h => by
    split
    · exact h.reply ..
    · exact ((h.reply ..).unqueueProbe _).abortProbe ..

theorem guarded_probeGet (tag : Byte) : Guarded (.probeGet tag) :=
  .command (fun _ => rfl) fun h => h.reply ..

theorem guarded_laneSet (tag lane enable preference : Byte) :
    Guarded (.laneSet tag lane enable preference) :=
  .command (fun _ => rfl) fun h => by
    split
    · have h1 (l : LaneNo) (f : Lane → Lane) :=
        (h.reply tag Kind.laneSet .ok .empty).modLane l f
      exact ite (h1 _ _) (ite (ite ((h1 _ _).enterSeek _) (h1 _ _))
        (ite (h1 _ _) ((h1 _ _).enterOff _)))
    · exact h.reply ..

theorem guarded_laneGet (tag lane : Byte) : Guarded (.laneGet tag lane) :=
  .command (fun _ => rfl) fun h => by
    split
    · exact (h.reply ..).modLane _ _
    · exact h.reply ..

theorem guarded_laneRetune (tag lane abilities : Byte) :
    Guarded (.laneRetune tag lane abilities) :=
  .command (fun _ => rfl) fun h => by
    split
    · dsimp only
      split
      · exact (h.modLane _ _).reply ..
      · exact ((h.reply ..).modLane _ _).enterSeek _
      · exact h.reply ..
    · exact h.reply ..

theorem guarded_laneWake (tag lane : Byte) : Guarded (.laneWake tag lane) :=
  .command (fun _ => rfl) fun h => by
    split
    · exact ite ((h.reply ..).enterWaking _) (h.reply ..)
    · exact h.reply ..

theorem guarded_healthSet (tag : Byte) (interval threshold hardCount : Half) (autoGuard : Byte)
    (retention : Half) :
    Guarded (.healthSet tag interval threshold hardCount autoGuard retention) :=
  .command (fun _ => rfl) fun h => by
    split
    · exact (h.setHealth _).reply ..
    · exact h.reply ..

theorem guarded_healthReadings (tag lane : Byte) :
    Guarded (.healthGet tag lane) ∧ Guarded (.unitGet tag lane) := by
  refine ⟨.command (fun _ => rfl) fun h => ?_, .command (fun _ => rfl) fun h => h.reply ..⟩
  split <;> exact h.reply ..

theorem guarded_guardClear (tag port : Byte) : Guarded (.guardClear tag port) :=
  .command (fun _ => rfl) fun h => by
    split
    · exact ite (h.reply ..) (ite (((h.reply ..).setGuard _ false).restatePort _) (h.reply ..))
    · exact h.reply ..

end

/-! ## Every command -/

/-- Every command but the two resets and the dispatch of a frame is an event or a host command. -/
theorem guarded_of_ne {i : Instr} (hreset : i ≠ .hardwareReset) (hrelease : i ≠ .resetRelease)
    (hdispatch : i ≠ .commandDispatch) : Guarded i := by
  obtain ⟨htake, hplace, hwithdraw, hlevel, hcomplete, hcommit⟩ := guarded_writerEvents
  cases i with
  | hardwareReset => exact absurd rfl hreset
  | resetRelease => exact absurd rfl hrelease
  | commandDispatch => exact absurd rfl hdispatch
  | referencePeriodJudgement p => exact guarded_clockEvent p
  | mixPass inputs => exact guarded_mixPass inputs
  | holdExpiry p => exact guarded_holdExpiry p
  | frameBoundary => exact guarded_frameBoundary
  | barredCountExpiry l => exact (guarded_laneExpiries l).2.2.2
  | controlFrameReceived bytes => exact guarded_controlFrameReceived bytes
  | lineGapTimeout => exact guarded_lineGapTimeout
  | transmitComplete => exact guarded_transmitComplete
  | identify tag => exact (guarded_lineCommands tag 0).1
  | lineGet tag => exact (guarded_lineCommands tag 0).2.1
  | restart tag => exact (guarded_lineCommands tag 0).2.2.1
  | restartTakeEffect => exact guarded_restartTakeEffect
  | stationIdSet tag identity => exact (guarded_lineCommands tag identity).2.2.2
  | clockSetReference tag => exact guarded_clockSetReference tag
  | clockSetFree tag => exact guarded_clockSetFree tag
  | clockGet tag => exact guarded_clockGet tag
  | portSetClass => exact guarded_portSetClass ..
  | portSetLevels => exact guarded_portSetLevels ..
  | portSetIsolate => exact guarded_portSetIsolate ..
  | portSetDuck => exact guarded_portSetDuck ..
  | portSetCancelOn => exact (guarded_portSetCancel ..).1
  | portSetCancelOff tag port => exact (guarded_portSetCancel tag port 0 0).2
  | portSetPanel => exact guarded_portSetPanel ..
  | portSetLanes => exact guarded_portSetLanes ..
  | portGet => exact guarded_portGet ..
  | xpSet => exact (guarded_crosspointCommands ..).1
  | xpClear tag src dst => exact (guarded_crosspointCommands tag src dst 0 0).2.1
  | xpList tag dst start => exact (guarded_crosspointCommands tag start dst 0 0).2.2
  | sceneBegin tag => exact (guarded_sceneCommands tag 0 0 0 0).1
  | sceneAbandon tag => exact (guarded_sceneCommands tag 0 0 0 0).2.1
  | sceneEntry => exact (guarded_sceneCommands ..).2.2.1
  | sceneCommit tag => exact (guarded_sceneCommands tag 0 0 0 0).2.2.2
  | jobTake => exact htake
  | claimPlace => exact hplace
  | claimWithdraw => exact hwithdraw
  | claimLevelChange => exact hlevel
  | writeJobComplete => exact hcomplete
  | commitDestination => exact hcommit
  | groupSet => exact (guarded_groupCommands ..).1
  | groupGet tag group => exact (guarded_groupCommands tag group []).2
  | keySet => exact guarded_keySet ..
  | keyGet => exact guarded_keyGet ..
  | talkForce => exact guarded_talkForce ..
  | talkDrop => exact guarded_talkDrop ..
  | talkList => exact guarded_talkList ..
  | hostCommandTake => exact guarded_hostCommandTake
  | keyRecordTake => exact guarded_keyRecordTake
  | endJobIssue => exact guarded_endJobIssue
  | longTimerExpiry k => exact guarded_longTimerExpiry k
  | poll l => exact guarded_poll l
  | answer l bytes => exact guarded_answer l bytes
  | answerWindowExpiry l => exact guarded_answerWindowExpiry l
  | answerBrokenOff l => exact guarded_answerBrokenOff l
  | pollSet => exact guarded_pollSet ..
  | filterSet => exact guarded_filterSet ..
  | panelGet => exact guarded_panelGet ..
  | queueGet => exact guarded_queueGet ..
  | probe => exact guarded_probe ..
  | probeCancel => exact guarded_probeCancel ..
  | probeGet tag => exact guarded_probeGet tag
  | probeStart => exact guarded_probeStart
  | windowJudgement => exact guarded_windowJudgement
  | gapExpiry => exact guarded_gapExpiry
  | settleExpiry => exact guarded_settleExpiry
  | laneFrameReceived l bytes => exact guarded_laneFrameReceived l bytes
  | silenceExpiry l => exact (guarded_laneExpiries l).1
  | handshakeTimeout l => exact (guarded_laneExpiries l).2.1
  | wakeCountExpiry l => exact (guarded_laneExpiries l).2.2.1
  | laneSet => exact guarded_laneSet ..
  | laneGet => exact guarded_laneGet ..
  | laneRetune => exact guarded_laneRetune ..
  | laneWake => exact guarded_laneWake ..
  | sweepExpiry => exact guarded_sweepExpiry
  | healthSet => exact guarded_healthSet ..
  | healthGet tag lane => exact (guarded_healthReadings tag lane).1
  | unitGet tag start => exact (guarded_healthReadings tag start).2
  | guardClear => exact guarded_guardClear ..
  | lengthOutOfRange length => exact guarded_lengthOutOfRange length

/-- The controller passes a command on as `exec` carries it out; an event it ignores. -/
theorem passCommand_cases (i : Instr) (s : State) :
    (Guarded i ∧ passCommand i s = exec i s) ∨ passCommand i s = .next s := by
  by_cases h : i = .hardwareReset ∨ i = .resetRelease ∨ i = .commandDispatch
  · obtain rfl | rfl | rfl := h <;> exact .inr rfl
  · simp only [not_or] at h
    have hi := guarded_of_ne h.1 h.2.1 h.2.2
    cases i
    all_goals first | exact .inr rfl | exact .inl ⟨hi, rfl⟩

theorem commandDispatch_keeps (s : State) :
    ∃ t, exec .commandDispatch s = .next t ∧ Keeps s t := by
  change ∃ t, execCommandDispatch s = .next t ∧ Keeps s t
  unfold execCommandDispatch
  split
  · split
    · next f rest hfifo =>
      have h1 : Keeps s (s.modControl fun c => { c with fifo := rest }) :=
        (Keeps.refl s).modControl fun hb => by
          have hlen : (f :: rest).length ≤ 8 := hfifo ▸ hb
          exact (Nat.le_succ _).trans hlen
      dsimp only
      split
      · exact ⟨_, rfl, h1.reply ..⟩
      · exact ⟨_, rfl, h1.reply ..⟩
      · exact ⟨_, rfl, h1.reply ..⟩
      · next i _ =>
        obtain ⟨hi, heq⟩ | heq := passCommand_cases i (s.modControl fun c => { c with fifo := rest })
        · obtain ⟨t, ht, hk⟩ := hi.next (s.modControl fun c => { c with fifo := rest })
          exact ⟨t, heq.trans ht, h1.trans hk⟩
        · exact ⟨_, heq, h1⟩
    · exact ⟨s, rfl, .refl s⟩
  · exact ⟨s, rfl, .refl s⟩

theorem hardwareReset_keeps (s : State) :
    Keeps s { s with resetHeld := true, control := { s.control with tx := none } } :=
  .of_same rfl

/-- The state after reset has every invariant. -/
theorem resetRelease_keeps (s : State) :
    Keeps s { State.reset with freeCount := s.freeCount, pending := s.pending } := by
  have h := keeps_restarted { s with timing := {}, control := {} }
  exact
    { pending := rfl
      crosspoints := h.crosspoints
      ducks := h.ducks
      keyQueues := h.keyQueues
      cancel := h.cancel
      reports := fun _ => Nat.zero_le _
      fifo := fun _ => Nat.zero_le _
      timing := fun _ => ⟨rfl, rfl, rfl⟩ }

/-- Every command has a next state, which keeps the queue of commands and every invariant. -/
theorem exec_keeps (i : Instr) (s : State) : ∃ t, exec i s = .next t ∧ Keeps s t := by
  by_cases hreset : i = .hardwareReset
  · exact hreset ▸ ⟨_, rfl, hardwareReset_keeps s⟩
  by_cases hrelease : i = .resetRelease
  · exact hrelease ▸ ⟨_, rfl, .ite (resetRelease_keeps s) (.refl s)⟩
  by_cases hdispatch : i = .commandDispatch
  · exact hdispatch ▸ commandDispatch_keeps s
  · exact (guarded_of_ne hreset hrelease hdispatch).next s

/-! ## The statements about every step -/

/-- An invariant that every command keeps, whatever waits in the queue, is kept by every step. -/
theorem keptByEveryStep_of_keeps {inv : State → Prop}
    (hpending : ∀ s rest, inv s → inv { s with pending := rest })
    (hkeeps : ∀ {s t}, Keeps s t → inv s → inv t) : KeptByEveryStep inv := by
  intro s t hs hstep
  unfold step at hstep
  split at hstep
  · cases hstep
    exact hs
  · next i rest _ =>
    obtain ⟨u, hu, hk⟩ := exec_keeps i { s with pending := rest }
    cases hu.symm.trans hstep
    exact hkeeps hk (hpending s rest hs)

/-- Settles O56: no change of the state loses the soundness of the Crosspoint Table. -/
theorem everyStepKeepsTheCrosspoints : Obligations.EveryStepKeepsTheCrosspoints :=
  keptByEveryStep_of_keeps (fun _ _ h => h) Keeps.crosspoints

/-- Settles O57: no change of the state takes a duck factor out of its range. -/
theorem everyStepKeepsTheDucks : Obligations.EveryStepKeepsTheDucks :=
  keptByEveryStep_of_keeps (fun _ _ h => h) Keeps.ducks

/-- Settles O59: the five invariants, each kept by every change of the state. -/
theorem everyStepKeepsQueuesAndClock : Obligations.EveryStepKeepsQueuesAndClock :=
  ⟨keptByEveryStep_of_keeps (fun _ _ h => h) Keeps.keyQueues,
    keptByEveryStep_of_keeps (fun _ _ h => h) Keeps.cancel,
    keptByEveryStep_of_keeps (fun _ _ h => h) Keeps.reports,
    keptByEveryStep_of_keeps (fun _ _ h => h) Keeps.fifo,
    keptByEveryStep_of_keeps (fun _ _ h => h) Keeps.timing⟩

/-- Settles O2: every command has a next state, and the queue is part of what it keeps. -/
theorem noCommandStopsOrTouchesTheQueue : Obligations.NoCommandStopsOrTouchesTheQueue := by
  intro i s
  obtain ⟨t, ht, hk⟩ := exec_keeps i s
  exact ⟨t, ht, hk.pending⟩

/-- Settles O3: the two resets by their definitions; of the others the guarded ones rest while the line is
held, and the dispatch takes no frame. -/
theorem resetLineHoldsThePart : Obligations.ResetLineHoldsThePart := by
  refine ⟨fun s => ⟨rfl, fun hheld => ?_, fun hfree => ?_⟩, fun i s hheld hreset hrelease => ?_⟩
  · change execResetRelease s = _
    rw [execResetRelease, if_pos hheld]
  · change execResetRelease s = _
    rw [execResetRelease, if_neg (by simp [hfree])]
  · by_cases hdispatch : i = .commandDispatch
    · subst hdispatch
      change execCommandDispatch s = _
      rw [execCommandDispatch, if_neg (by simp [State.takesCommand, hheld])]
    · exact (guarded_of_ne hreset hrelease hdispatch).of_held hheld

/-- Settles O1: the two arms of `step`, by what waits. -/
theorem stepTakesTheFrontCommand : Obligations.StepTakesTheFrontCommand := by
  refine ⟨fun i rest s h => ?_, fun s h => ?_⟩
  · rw [step, h]
  · rw [step, h]

end Sys2Proof.Machine
end

section
/-! PROOFS. The control line, the timing unit and the writer's choice of a job (O4, O5, O11, O12, O13,
O25), over what a reply and a report in one step leave. -/

namespace Sys2Proof.Machine

namespace State

/-! ## Replies and reports of one step -/

theorem IsBut.trans {c u t : State} (hu : c.IsBut u) (ht : u.IsBut t) : c.IsBut t := by
  unfold IsBut at hu ht ⊢
  rw [hu] at ht
  exact ht

/-- A change away from what waits to be sent is the same change of what stands apart from it. -/
theorem IsBut.after {s u : State} {f : State → State}
    (hf : ∀ rs tx q,
      f { s with control := { s.control with replies := rs, tx := tx }, reports := q } =
        { f s with control := { (f s).control with replies := rs, tx := tx }, reports := q })
    (h : s.IsBut u) : (f s).IsBut (f u) := by
  unfold IsBut at h ⊢
  rw [h, hf]

theorem FormsReplies.trans {s t u : State} {a b : List Reply} (h : s.FormsReplies t a)
    (k : t.FormsReplies u b) : s.FormsReplies u (a ++ b) := by
  unfold FormsReplies at *
  rw [k, h, List.append_assoc]

/-- What is offered is judged by the Report Queue and the frame being sent alone. -/
theorem QueuesReport.of_same {s u t : State} {r : Report} (hsent : u.unsentReports = s.unsentReports)
    (hreports : u.reports = s.reports) (h : u.QueuesReport t r) : s.QueuesReport t r := by
  simpa only [QueuesReport, hsent, hreports] using h

/-- A reply formed, then a change away from the control line, then a report. -/
theorem reply_then_report {s c u : State} {tag kind : Byte} {code : ResultCode}
    {fields : ReplyFields} (r : Report)
    (hcontrol : u.control = (s.reply tag kind code fields).control)
    (hreports : u.reports = (s.reply tag kind code fields).reports) (hbut : c.IsBut u) :
    s.FormsReplies (u.report r) [⟨tag, kind, code, fields⟩] ∧ s.QueuesReport (u.report r) r ∧
      c.IsBut (u.report r) := by
  have hreplies : u.unsentReplies = (s.reply tag kind code fields).unsentReplies := by
    rw [unsentReplies, unsentReplies, hcontrol]
  have hsent : u.unsentReports = (s.reply tag kind code fields).unsentReports := by
    rw [unsentReports, unsentReports, hcontrol, hreports]
  obtain ⟨-, hqueues⟩ := u.report_offers r
  refine ⟨?_, hqueues.of_same (hsent.trans (reply_unsentReports ..))
    (hreports.trans (reply_reports ..)), hbut.trans (u.report_isBut r)⟩
  rw [FormsReplies, report_unsentReplies, hreplies, reply_unsentReplies]

end State

theorem exec_of_command {i : Instr} {s : State} {f : State → State} (htake : s.takesCommand = true)
    (hf : ∀ s, exec i s = onCommand s f) : exec i s = .next (f s) :=
  (hf s).trans (onCommand_eq s f htake)

theorem exec_of_event {i : Instr} {s : State} {f : State → State} (hheld : s.resetHeld = false)
    (hf : ∀ s, exec i s = onEvent s f) : exec i s = .next (f s) :=
  (hf s).trans (onEvent_eq s f hheld)

/-- A command whose reply is formed first and which then changes nothing the reply is made of. -/
theorem completes_of_reply_first {i : Instr} {s c t : State} {tag kind : Byte} {code : ResultCode}
    {fields : ReplyFields} (hexec : exec i s = .next t)
    (hreplies : t.control.replies = (s.reply tag kind code fields).control.replies)
    (htx : t.control.tx = (s.reply tag kind code fields).control.tx)
    (hreports : t.reports = (s.reply tag kind code fields).reports) (hbut : c.IsBut t) :
    Completes i s c tag kind code fields := by
  refine ⟨t, hexec, ?_, hbut⟩
  obtain ⟨hforms, hqueues⟩ := s.reply_answers tag kind code fields
  simpa only [State.Answers, State.FormsReplies, State.QueuesNoReport, State.unsentReplies,
    State.unsentReports, hreplies, htx, hreports] using And.intro hforms hqueues

/-- A command that changes `s` to `c` but for what waits to be sent, and is answered in the same step. -/
theorem completes_of_reply_of_waits {i : Instr} {s c : State} {tag kind : Byte}
    {code : ResultCode} {fields : ReplyFields}
    (hexec : exec i s = .next (c.reply tag kind code fields))
    (hreplies : c.control.replies = s.control.replies) (htx : c.control.tx = s.control.tx)
    (hreports : c.reports = s.reports) : Completes i s c tag kind code fields := by
  refine ⟨_, hexec, ?_, c.reply_isBut tag kind code fields⟩
  simpa only [State.Answers, State.FormsReplies, State.QueuesNoReport, State.unsentReplies,
    State.unsentReports, hreplies, htx, hreports] using c.reply_answers tag kind code fields

/-! ## Reset and RESTART -/

/-- Settles O4: by the reset values of the records. -/
theorem resetLeavesTheStatedValues : Obligations.ResetLeavesTheStatedValues := by
  have get {n : Nat} {α : Type} (x : α) (i : Fin n) : (Table.replicate n x).get i = x :=
    Table.get_replicate x i
  have hline (l : LineNo) : State.reset.line l = {} := get ({} : PanelLine) l
  have hlane (l : LaneNo) : State.reset.lane l = {} := get ({} : Lane) l
  have hkey (k : KeyId) : State.reset.key k = {} := by
    change (((Table.replicate 2 (Table.replicate 16 (Table.replicate 32 ({} : KeyCell)))).get
      k.line).get k.addr).get k.key = {}
    simp only [get]
  refine ⟨by decide, fun p => get ({} : Port) p, fun d => ⟨get [] d, get ({} : Duck) d⟩, by decide,
    fun k => congrArg CancelSlot.owner (get ({} : CancelSlot) k),
    fun b => congrArg PathBuf.owner (get ({} : PathBuf) b), rfl, fun l => ?_, by decide,
    fun g => get [] g, fun l a k => ?_, rfl, fun l => ?_,
    ⟨rfl, rfl, fun l => get ({} : HealthRec) l⟩, rfl, by decide, rfl, rfl, rfl⟩
  · rw [hline]
    exact ⟨rfl, rfl, rfl, rfl, rfl, rfl, rfl, rfl, rfl, rfl, rfl,
      fun a => by rw [State.panel, hline]; exact get ({} : PanelRec) a, get ({} : KeyQueue) l⟩
  · rw [hkey]
    exact ⟨rfl, rfl, rfl, rfl, rfl, rfl⟩
  · rw [hlane]
    exact ⟨rfl, rfl, rfl, rfl, rfl, rfl, rfl, rfl, rfl, rfl⟩

/-- Settles O5: RESTART's reply completes it; its effect is the restarted part, whose idle transmitter begins
READY at once. -/
theorem restartKeepsTheTimeBaseAndTheUnits : Obligations.RestartKeepsTheTimeBaseAndTheUnits := by
  intro s
  refine ⟨fun tag htake => ?_, fun hheld hdue => ?_, fun hdue => ?_⟩
  · have hexec : exec (.restart tag) s = .next _ := exec_of_command htake fun _ => rfl
    exact completes_of_reply_of_waits hexec rfl rfl rfl
  · change execRestartTakeEffect s = _
    rw [execRestartTakeEffect, onEvent_eq s _ hheld, if_pos hdue]
    rfl
  · change execRestartTakeEffect s = _
    rw [execRestartTakeEffect]
    simp only [onEvent, hdue, if_false, ite_self]

/-! ## Readings of the line, the part and the clock -/

/-- Settles O11: each reply carries the values before the command's own change. -/
theorem identityLineAndClockReadings : Obligations.IdentityLineAndClockReadings := by
  intro tag s htake
  have hclock : exec (.clockGet tag) s = .next _ := exec_of_command htake fun _ => rfl
  have hidentify : exec (.identify tag) s = .next _ := exec_of_command htake fun _ => rfl
  have hline : exec (.lineGet tag) s = .next _ := exec_of_command htake fun _ => rfl
  refine ⟨completes_of_reply_first hclock rfl rfl rfl ?_, completes_of_reply hidentify rfl rfl,
    completes_of_reply_first hline rfl rfl rfl ?_, fun identity => ?_⟩
  · exact (s.reply_isBut ..).after (f := (·.modTiming fun t => { t with holdoverEntries := 0 }))
      fun _ _ _ => rfl
  · exact (s.reply_isBut ..).after (f := (·.modControl fun c => { c with lineErrors := 0 }))
      fun _ _ _ => rfl
  · have hset : exec (.stationIdSet tag identity) s = .next _ := exec_of_command htake fun _ => rfl
    exact completes_of_reply hset rfl rfl

/-! ## The timing unit -/

theorem State.announceLock_of_ne (s : State) {old : LockState}
    (h : ¬ (old = .locked ∧ s.timing.lock = .holdover)) :
    s.announceLock old = s.report (.clockState old s.timing.lock (s.time + 1)) := by
  simp [State.announceLock, State.probeLockChange, h]

/-- CLOCK-SET where it acts: the reply, the new timing, and CLOCK-STATE. -/
theorem clockSet_acts {i : Instr} {s : State} {tag : Byte} {new : LockState}
    {f : Timing → Timing} (hlock : (f s.timing).lock = new) (hne : new ≠ .holdover)
    (htime : (f s.timing).stationTime = s.timing.stationTime)
    (hexec : exec i s =
      .next (((s.reply tag Kind.clockSet .ok).modTiming f).announceLock s.timing.lock)) :
    ∃ u, exec i s = .next u ∧ s.FormsReplies u [⟨tag, Kind.clockSet, .ok, .empty⟩] ∧
      s.QueuesReport u (.clockState s.timing.lock new (s.timing.stationTime + 1)) ∧
      State.IsBut { s with timing := f s.timing } u := by
  have hu : ((s.reply tag Kind.clockSet .ok).modTiming f).timing = f s.timing := by simp
  rw [State.announceLock_of_ne _ (by rw [hu, hlock]; exact fun h => hne h.2), State.time, hu,
    hlock, htime] at hexec
  exact ⟨_, hexec, State.reply_then_report _ rfl rfl
    ((s.reply_isBut ..).after (f := (·.modTiming f)) fun _ _ _ => rfl)⟩

/-- Settles O12: each CLOCK-SET by the lock state that stops it or lets it act. -/
theorem clockSetByLockState : Obligations.ClockSetByLockState := by
  intro tag s htake t
  refine ⟨fun hfree => ⟨?_, ?_⟩, fun hbusy => ⟨?_, ?_⟩⟩
  · rw [← hfree]
    refine clockSet_acts (f := fun t =>
      { t with selected := true, lock := .acquire, source := .internal, goodRun := 0
               recentGood := [] }) rfl (by simp) rfl ?_
    rw [exec_of_command htake fun _ => rfl, if_pos hfree, hfree]
  · refine completes_of_reply ?_ rfl rfl
    rw [exec_of_command htake fun _ => rfl, if_pos hfree]
  · refine completes_of_reply ?_ rfl rfl
    rw [exec_of_command htake fun _ => rfl, if_neg hbusy]
  · refine clockSet_acts (f := fun t' =>
      { t' with
        selected := false, lock := .free, source := .internal, goodRun := 0, recentGood := []
        held := if t.lock = .acquire then t'.held else none
        badRun := if t.lock = .acquire then t'.badRun else 0 }) rfl (by simp) rfl ?_
    rw [exec_of_command htake fun _ => rfl, if_neg hbusy]

/-- A good period, by its definition's two conditions (R2). -/
theorem goodPeriod?_eq_some_iff (p : RefPeriod) (offset : Int) :
    goodPeriod? p = some offset ↔
      p.earlyEdge = false ∧ p.edge = some offset ∧ -10000 ≤ offset ∧ offset ≤ 10000 := by
  obtain ⟨early, edge⟩ := p
  cases early <;> cases edge <;> simp only [goodPeriod?]
  case false.some x =>
    constructor
    · intro h
      split at h
      · cases h
        exact ⟨trivial, rfl, ‹_›⟩
      · cases h
    · rintro ⟨-, ⟨⟩, h⟩
      exact if_pos h
  all_goals simp

/-- A reference period judged: by the selection and the lock state. -/
theorem exec_referencePeriodJudgement_of_acquire {s : State} (p : RefPeriod)
    (hheld : s.resetHeld = false) (hselected : s.timing.selected = true)
    (hlock : s.timing.lock = .acquire) :
    exec (.referencePeriodJudgement p) s = .next (s.judgeAcquire (goodPeriod? p)) := by
  rw [exec_of_event hheld fun _ => rfl, if_pos hselected, hlock]

/-- Settles O13: the definition of a good period, and the judgement in ACQUIRE by it and the good run. -/
theorem acquireLocksOnTheSixtyFourthGoodPeriod :
    Obligations.AcquireLocksOnTheSixtyFourthGoodPeriod := by
  refine ⟨goodPeriod?_eq_some_iff, ?_⟩
  intro p s hheld t
  refine ⟨fun hidle => ?_, fun hsel hlock => ?_⟩
  · rw [exec_of_event hheld fun _ => rfl]
    obtain hsel | hfree := hidle
    · rw [if_neg (by simp [show s.timing.selected = false from hsel])]
    · rw [show s.timing.lock = .free from hfree]
      exact congrArg _ (ite_self s)
  · have hexec := exec_referencePeriodJudgement_of_acquire p hheld hsel hlock
    refine ⟨fun hbad => ?_, fun offset hgood => ⟨fun hrun => ?_, fun hrun => ?_⟩⟩
    · rw [hexec, hbad]
      rfl
    · rw [hexec, hgood]
      exact congrArg _ (if_pos (show s.timing.goodRun + 1 < 64 from Nat.succ_lt_succ hrun))
    · rw [hgood] at hexec
      have hlast : ¬ s.timing.goodRun + 1 < 64 := (Nat.succ_le_succ hrun).not_gt
      simp only [State.judgeAcquire, if_neg hlast] at hexec
      rw [State.announceLock_of_ne _ (by simp)] at hexec
      exact ⟨_, hexec, State.report_offers _ _, State.report_isBut _ _⟩

/-! ## The writer takes a job -/

/-- Settles O25: the positions in the order of R32. -/
theorem writerTakesTalkJobsFirst : Obligations.WriterTakesTalkJobsFirst := by
  intro s hheld
  have hexec : exec .jobTake s = .next _ := exec_of_event hheld fun _ => rfl
  refine ⟨fun hidle => ?_, fun hfree => ?_⟩
  · rw [hexec]
    obtain hbusy | ⟨htalk, hhost⟩ := hidle
    · rw [if_neg hbusy]
    · simp only [State.takeJob, htalk, hhost, ite_self]
  · rw [if_pos hfree] at hexec
    refine ⟨fun j htalk => ?_, fun j htalk hhost hpurpose => ?_, fun j v htalk hhost hpurpose hv => ?_⟩
    · rw [hexec, State.takeJob, htalk]
      rfl
    · rw [hexec, State.takeJob, htalk, hhost]
      dsimp only
      split
      · exact absurd ‹_› hpurpose
      · rfl
    · have htaken : s.takeJob = ({ s with
          control := { s.control with service := none }
          writer :=
            { s.writer with
              state := .committing, hostPos := none, progress := some 0, applied := 0
              skipped := 0, lowestSkipped := none } } : State).reply v.tag v.kind .ok := by
        simp only [State.takeJob, htalk, hhost, hpurpose, State.endService, State.modWriter, hv]
      rw [htaken] at hexec
      exact completes_of_reply_of_waits hexec rfl rfl rfl

end Sys2Proof.Machine
end

section
/-! PROOFS. Commands of the ports, the writer and the arbiter that act on one record or wait in service
(O18, O21, O23, O41): how their operands are read, and what each makes of the state. -/

namespace Sys2Proof

namespace Table

variable {n : Nat} {α : Type}

theorem set_get_self (t : Table n α) (i : Fin n) : t.set i (t.get i) = t :=
  ext_get fun j => by
    by_cases h : j = i
    · subst h; simp
    · simp [get_set_ne _ _ h]

theorem set_set (t : Table n α) (i : Fin n) (x y : α) : (t.set i x).set i y = t.set i y :=
  ext_get fun j => by
    by_cases h : j = i
    · subst h; simp
    · simp [get_set_ne _ _ h]

end Table

namespace Machine

/-! ## Operands -/

theorem code?_eq_none {α : Type} {values : List α} {b : Byte} (h : values.length ≤ b.toNat) :
    code? values b = none := List.getElem?_eq_none h

theorem noneCode_toNat : noneCode.toNat = 255 := rfl

theorem ne_noneCode_of_toNat {n : Nat} {b : Byte} {i : Fin n} (hn : n ≤ 255) (h : b.toNat = i.val) :
    b ≠ noneCode := by
  rintro rfl
  have := i.isLt
  rw [noneCode_toNat] at h
  omega

theorem numberOrNone?_noneCode (n : Nat) : numberOrNone? n noneCode = some none := if_pos rfl

theorem numberOrNone?_eq_some {n : Nat} {b : Byte} {i : Fin n} (hn : n ≤ 255)
    (h : b.toNat = i.val) : numberOrNone? n b = some (some i) := by
  rw [numberOrNone?, if_neg (ne_noneCode_of_toNat hn h), number?_eq_some h, Option.map_some]

theorem numberOrNone?_eq_none {n : Nat} {b : Byte} (h : n ≤ b.toNat) (hne : b ≠ noneCode) :
    numberOrNone? n b = none := by
  rw [numberOrNone?, if_neg hne, number?_eq_none h, Option.map_none]

theorem threshold?_eq_none {b : Byte} (h : (3 < b.toNat ∧ b ≠ noneCode) ∨ b = 0) :
    threshold? b = none := by
  obtain ⟨hlarge, hne⟩ | rfl := h
  · rw [threshold?, if_neg hne]
    split
    · rfl
    · rw [number?_eq_none hlarge, Option.map_none]
  · rfl

theorem threshold?_eq_some {b : Byte} {th : Option XpClass}
    (h : th = none ∧ b = noneCode ∨ ∃ c : XpClass, th = some c ∧ c ≠ 0 ∧ b.toNat = c.val) :
    threshold? b = some th := by
  obtain ⟨rfl, rfl⟩ | ⟨c, rfl, hc, hb⟩ := h
  · rfl
  · have hb0 : b ≠ 0 := by
      rintro rfl
      exact hc (Fin.ext hb.symm)
    rw [threshold?, if_neg (ne_noneCode_of_toNat (by norm_num) hb), if_neg hb0,
      number?_eq_some hb, Option.map_some]

theorem panelBinding?_eq_none {line addr : Byte} (h : 2 ≤ line.toNat ∨ 16 ≤ addr.toNat)
    (hne : ¬ (line = noneCode ∧ addr = noneCode)) : panelBinding? line addr = none := by
  rw [panelBinding?, if_neg hne]
  obtain h | h := h
  · rw [number?_eq_none h]
  · rw [number?_eq_none h]
    cases number? 2 line <;> rfl

theorem panelBinding?_eq_some {line addr : Byte} {panel : Option (LineNo × PanelAddr)}
    (h : panel = none ∧ line = noneCode ∧ addr = noneCode ∨
      ∃ l a, panel = some (l, a) ∧ line.toNat = l.val ∧ addr.toNat = a.val) :
    panelBinding? line addr = some panel := by
  obtain ⟨rfl, hline, haddr⟩ | ⟨l, a, rfl, hl, ha⟩ := h
  · exact if_pos ⟨hline, haddr⟩
  · rw [panelBinding?, if_neg fun h => ne_noneCode_of_toNat (by norm_num) hl h.1,
      number?_eq_some hl, number?_eq_some ha]

/-- The code of a quantity clamped to `0..hi`, as the flag in service says it. -/
theorem not_inRange_zero (hi v : Nat) : (!inRange 0 hi v) = decide (hi < v) := by
  rw [inRange_zero, ← decide_not, decide_eq_decide]
  omega

/-! ## PORT-SET DUCK (R19) -/

/-- An operation that leaves the port's record writes the unit alone. -/
theorem State.onDuck_of_unit {s : State} {p : PortNo} {f : List Entry → DuckPort → DuckPort}
    {d : Duck} (h : f (s.into p) (s.port p, s.duck p) = (s.port p, d)) :
    s.onDuck p f = { s with ducks := s.ducks.set p d } := by
  simp only [State.onDuck, h]
  rw [State.port, Table.set_get_self]

section
variable {s : State} {p : PortNo} {profile : DuckProfile}

/-- A profile taken in OPEN is in force; the unit is reassessed under it. -/
theorem State.setProfile_of_open {d : Duck} (hopen : (s.duck p).state = .opened)
    (h : ∀ x : Port, x.profile = profile →
      duckReassessOpen (s.into p) (x, s.duck p) = (x, d)) :
    s.setProfile p profile =
      { s.modPort p (fun x => { x with profile := profile, pendingProfile := none }) with
        ducks := s.ducks.set p d } := by
  rw [State.setProfile, if_pos hopen]
  refine State.onDuck_of_unit (h _ ?_)
  rw [State.port_modPort, if_pos rfl]

theorem State.setProfile_of_not_open (h : (s.duck p).state ≠ .opened) :
    s.setProfile p profile = s.modPort p fun x => { x with pendingProfile := some profile } := by
  rw [State.setProfile, if_neg h]

end

/-- The code of a command with four quantities: CLAMPED unless each is in range. -/
theorem okOr_not_and (a b c d : Prop) [Decidable a] [Decidable b] [Decidable c] [Decidable d] :
    okOr (!(decide a && decide b && decide c && decide d)) =
      if a ∧ b ∧ c ∧ d then .ok else .clamped := by
  simp only [← Bool.decide_and, and_assoc]
  by_cases h : a ∧ b ∧ c ∧ d
  · simp [okOr, h]
  · simp [okOr, h]

section
variable {s : State} (htake : s.takesCommand = true) (tag : Byte) {port threshold : Byte}
  (depth attack hold release : Half)
include htake

theorem exec_portSetDuck_of_refused
    (h : 64 ≤ port.toNat ∨ (3 < threshold.toNat ∧ threshold ≠ noneCode) ∨ threshold = 0) :
    exec (.portSetDuck tag port threshold depth attack hold release) s =
      .next (s.reply tag Kind.portSet .badArg) := by
  have hexec : exec (.portSetDuck tag port threshold depth attack hold release) s = .next _ :=
    exec_of_command htake fun _ => rfl
  rw [hexec]
  obtain h | h := h
  · rw [number?_eq_none h]
    rfl
  · rw [threshold?_eq_none h]
    cases number? 64 port <;> rfl

theorem exec_portSetDuck_of_port {p : PortNo} {th : Option XpClass} (hport : port.toNat = p.val)
    (hth : threshold? threshold = some th) :
    exec (.portSetDuck tag port threshold depth attack hold release) s =
      .next (if (s.port p).cls = .unused then s.reply tag Kind.portSet .wrongClass
        else (s.setProfile p
            { threshold := th, depth := min 1024 depth.toNat, attack := min 4800 attack.toNat
              hold := min 48000 hold.toNat, release := min 48000 release.toNat }).reply
          tag Kind.portSet
          (if depth.toNat ≤ 1024 ∧ attack.toNat ≤ 4800 ∧ hold.toNat ≤ 48000 ∧
            release.toNat ≤ 48000 then .ok else .clamped)) := by
  have hexec : exec (.portSetDuck tag port threshold depth attack hold release) s = .next _ :=
    exec_of_command htake fun _ => rfl
  rw [hexec, number?_eq_some hport, hth]
  simp only [State.portSetReply, clampTo_zero, inRange_zero, okOr_not_and]

end

/-- Settles O18: by the duck state, and in OPEN by the trigger under the new profile and its attack. -/
theorem duckProfileAppliesInOpen : Obligations.DuckProfileAppliesInOpen := by
  intro tag port threshold depth attack hold release s htake cmd
  refine ⟨fun hbad => completes_of_reply
    (exec_portSetDuck_of_refused htake tag depth attack hold release hbad) rfl rfl, ?_⟩
  intro p th hport hth profile code inForce
  have hexec := exec_portSetDuck_of_port htake tag depth attack hold release hport
    (threshold?_eq_some hth)
  refine ⟨fun hunused => ?_, fun hused hopen => ⟨fun hno => ?_, fun hyes hzero => ?_,
    fun hyes hramp => ?_⟩, fun hused hopen => ?_⟩
  · rw [if_pos hunused] at hexec
    exact completes_of_reply hexec rfl rfl
  all_goals rw [if_neg hused] at hexec
  · rw [State.setProfile_of_open hopen (d := { s.duck p with trigger := false }) fun x hx => by
      rw [duckReassessOpen, if_neg (by rw [hx]; exact ne_true_of_eq_false hno)]] at hexec
    exact completes_of_reply hexec rfl rfl
  · rw [State.setProfile_of_open hopen (d := { s.duck p with
        trigger := true, state := .ducked, factor := profile.depth, step := none })
      fun x hx => by
        rw [duckReassessOpen, if_pos (by rw [hx]; exact hyes), duckAttack, hx, if_pos hzero]]
      at hexec
    exact completes_of_reply hexec rfl rfl
  · rw [State.setProfile_of_open hopen (d := { s.duck p with
        trigger := true, state := .attack
        step := some ((1024 - profile.depth + profile.attack - 1) / profile.attack) })
      fun x hx => by
        rw [duckReassessOpen, if_pos (by rw [hx]; exact hyes), duckAttack, hx, if_neg hramp]
        rfl] at hexec
    exact completes_of_reply hexec rfl rfl
  · rw [State.setProfile_of_not_open hopen] at hexec
    exact completes_of_reply hexec rfl rfl

/-! ## PORT-SET PANEL (R24) -/

theorem exec_portSetPanel_of_refused {s : State} (htake : s.takesCommand = true) (tag : Byte)
    {port line addr : Byte}
    (h : 64 ≤ port.toNat ∨
      ((2 ≤ line.toNat ∨ 16 ≤ addr.toNat) ∧ ¬ (line = noneCode ∧ addr = noneCode))) :
    exec (.portSetPanel tag port line addr) s = .next (s.reply tag Kind.portSet .badArg) := by
  have hexec : exec (.portSetPanel tag port line addr) s = .next _ :=
    exec_of_command htake fun _ => rfl
  rw [hexec]
  obtain h | ⟨h, hne⟩ := h
  · rw [number?_eq_none h]
    rfl
  · rw [panelBinding?_eq_none h hne]
    cases number? 64 port <;> rfl

/-- Another PANEL port has the panel address. -/
def State.PanelTaken (s : State) (p : PortNo) (panel : Option (LineNo × PanelAddr)) : Prop :=
  ∃ q, q ≠ p ∧ (s.port q).cls = .panel ∧ panel ≠ none ∧ (s.port q).panel = panel

open Classical in
theorem exec_portSetPanel_of_port {s : State} (htake : s.takesCommand = true) (tag : Byte)
    {port line addr : Byte} {p : PortNo} {panel : Option (LineNo × PanelAddr)}
    (hport : port.toNat = p.val) (hpanel : panelBinding? line addr = some panel) :
    exec (.portSetPanel tag port line addr) s =
      .next (if (s.port p).cls ≠ .panel then s.reply tag Kind.portSet .wrongClass
        else if s.PanelTaken p panel then s.reply tag Kind.portSet .duplicate
        else if ∃ t ∈ s.arbiter.talks, t.talkingPort = p then s.reply tag Kind.portSet .inUse
        else (s.modPort p fun x => { x with panel := panel }).reply tag Kind.portSet .ok) := by
  have hexec : exec (.portSetPanel tag port line addr) s = .next _ :=
    exec_of_command htake fun _ => rfl
  rw [hexec, number?_eq_some hport, hpanel]
  have htaken : (allPorts.any fun q => decide (q ≠ p) && (s.port q).cls == .panel &&
      panel.isSome && (s.port q).panel == panel) = true ↔ s.PanelTaken p panel := by
    simp [State.PanelTaken, allPorts, Option.isSome_iff_ne_none, and_assoc]
  have htalks : s.talksFrom p = true ↔ ∃ t ∈ s.arbiter.talks, t.talkingPort = p := by
    simp [State.talksFrom]
  simp only [htaken, htalks, State.portSetReply]

/-- Settles O21: the checks in the order of R24. -/
theorem panelBindingIsExclusive : Obligations.PanelBindingIsExclusive := by
  intro tag port line addr s htake cmd
  refine ⟨fun hbad => completes_of_reply (exec_portSetPanel_of_refused htake tag hbad) rfl rfl, ?_⟩
  intro p panel hport hpanel
  have hexec := exec_portSetPanel_of_port htake tag hport (panelBinding?_eq_some hpanel)
  refine ⟨fun hcls => ?_, fun hcls => ⟨fun ⟨hsome, q, hq, hqcls, hqpanel⟩ => ?_, fun hfree => ?_⟩⟩
  · rw [if_pos hcls] at hexec
    exact completes_of_reply hexec rfl rfl
  · rw [if_neg (not_not.mpr hcls), if_pos ⟨q, hq, hqcls, hsome, hqpanel⟩] at hexec
    exact completes_of_reply hexec rfl rfl
  · have hnot : ¬ s.PanelTaken p panel := by
      rintro ⟨q, hq, hqcls, hsome, hqpanel⟩
      exact hfree.elim hsome fun h => h q hq hqcls hqpanel
    rw [if_neg (not_not.mpr hcls), if_neg hnot] at hexec
    refine ⟨fun htalk => ?_, fun hno => ?_⟩
    · rw [if_pos htalk] at hexec
      exact completes_of_reply hexec rfl rfl
    · rw [if_neg (by simpa using hno)] at hexec
      exact completes_of_reply hexec rfl rfl

/-! ## Host jobs (R40, R41, R50) -/

section
variable {s : State} (htake : s.takesCommand = true) (tag : Byte) {src dst cls : Byte}
  (level : Half)
include htake

theorem exec_xpSet_of_refused (h : 64 ≤ src.toNat ∨ 64 ≤ dst.toNat ∨ src = dst ∨ 4 ≤ cls.toNat) :
    exec (.xpSet tag src dst level cls) s = .next (s.reply tag Kind.xpSet .badArg) := by
  have hexec : exec (.xpSet tag src dst level cls) s = .next _ :=
    exec_of_command htake fun _ => rfl
  rw [hexec]
  obtain h | h | rfl | h := h
  · rw [number?_eq_none h]
  · rw [number?_eq_none h]
    cases number? 64 src <;> rfl
  · cases number? 64 src with
    | none => rfl
    | some a =>
      cases number? 4 cls with
      | none => rfl
      | some c => exact congrArg _ (if_pos rfl)
  · rw [number?_eq_none h]
    cases number? 64 src <;> cases number? 64 dst <;> rfl

theorem exec_xpClear_of_refused (h : 64 ≤ src.toNat ∨ 64 ≤ dst.toNat ∨ src = dst) :
    exec (.xpClear tag src dst) s = .next (s.reply tag Kind.xpClear .badArg) := by
  have hexec : exec (.xpClear tag src dst) s = .next _ := exec_of_command htake fun _ => rfl
  rw [hexec]
  obtain h | h | rfl := h
  · rw [number?_eq_none h]
  · rw [number?_eq_none h]
    cases number? 64 src <;> rfl
  · cases number? 64 src with
    | none => rfl
    | some a => exact congrArg _ (if_pos rfl)

variable {a b : PortNo} {c : XpClass} (ha : src.toNat = a.val) (hb : dst.toNat = b.val)
  (hab : a ≠ b)
include ha hb hab

theorem exec_xpSet_of_ports (hc : cls.toNat = c.val) :
    exec (.xpSet tag src dst level cls) s =
      .next (if (s.port a).cls = .unused ∨ (s.port b).cls = .unused then
          s.reply tag Kind.xpSet .wrongClass
        else if s.committing then s.reply tag Kind.xpSet .busy
        else (s.beginService tag Kind.xpSet (decide (4095 < level.toNat))).submitHost (.xpSet a b)
          [.place a b .fixed (min 4095 level.toNat) c]) := by
  have hexec : exec (.xpSet tag src dst level cls) s = .next _ :=
    exec_of_command htake fun _ => rfl
  rw [hexec, number?_eq_some ha, number?_eq_some hb, number?_eq_some hc]
  simp only [if_neg hab, not_inRange_zero, clampTo_zero]

theorem exec_xpClear_of_ports :
    exec (.xpClear tag src dst) s =
      .next (if s.committing then s.reply tag Kind.xpClear .busy
        else (s.beginService tag Kind.xpClear).submitHost .xpClear [.withdraw a b .fixed]) := by
  have hexec : exec (.xpClear tag src dst) s = .next _ := exec_of_command htake fun _ => rfl
  rw [hexec, number?_eq_some ha, number?_eq_some hb]
  simp only [if_neg hab]

end

/-- Settles O23: the checks in their order; past them the job is in the host position. -/
theorem hostJobsWaitInTheHostPosition : Obligations.HostJobsWaitInTheHostPosition := by
  intro tag src dst level cls s htake waits
  have hcommit : exec (.sceneCommit tag) s = .next _ := exec_of_command htake fun _ => rfl
  refine ⟨fun h => ⟨?_, ?_⟩, fun h => ?_, fun a b c ha hb hab hc => ⟨fun hunused => ?_,
    fun hua hub => ⟨fun hbusy => ?_, fun hidle => ?_⟩⟩, fun a b ha hb hab => ⟨fun hbusy => ?_,
    fun hidle => ?_⟩, fun hbusy => ?_, fun hidle => ?_⟩
  · exact completes_of_reply (exec_xpSet_of_refused htake tag level (by tauto)) rfl rfl
  · exact completes_of_reply (exec_xpClear_of_refused htake tag h) rfl rfl
  · exact completes_of_reply (exec_xpSet_of_refused htake tag level (by tauto)) rfl rfl
  · have hexec := exec_xpSet_of_ports htake tag level ha hb hab hc
    rw [if_pos hunused] at hexec
    exact completes_of_reply hexec rfl rfl
  · have hexec := exec_xpSet_of_ports htake tag level ha hb hab hc
    rw [if_neg (by simp [hua, hub]), if_pos (s.committing_iff.mpr hbusy)] at hexec
    exact completes_of_reply hexec rfl rfl
  · rw [exec_xpSet_of_ports htake tag level ha hb hab hc, if_neg (by simp [hua, hub]),
      if_neg (mt s.committing_iff.mp hidle)]
    rfl
  · have hexec := exec_xpClear_of_ports htake tag ha hb hab
    rw [if_pos (s.committing_iff.mpr hbusy)] at hexec
    exact completes_of_reply hexec rfl rfl
  · rw [exec_xpClear_of_ports htake tag ha hb hab, if_neg (mt s.committing_iff.mp hidle)]
    rfl
  · rw [if_pos (s.committing_iff.mpr hbusy)] at hcommit
    exact completes_of_reply hcommit rfl rfl
  · rw [hcommit, if_neg (mt s.committing_iff.mp hidle)]
    rfl

/-! ## Commands that wait for the arbiter, and KEY-SET (R109, R111, R127, R128) -/

theorem ports?_eq_none {members : List Byte} (h : ∃ b ∈ members, 64 ≤ b.toNat) :
    ports? members = none := by
  induction members with
  | nil => simp at h
  | cons b rest ih =>
    rw [ports?]
    obtain ⟨x, hx, hlarge⟩ := h
    obtain rfl | hx := List.mem_cons.mp hx
    · rw [number?_eq_none hlarge]
    · rw [ih ⟨x, hx, hlarge⟩]
      cases number? 64 b <;> rfl

theorem ports?_eq_some {members : List Byte} {ps : List PortNo}
    (h : members.map BitVec.toNat = ps.map Fin.val) : ports? members = some ps := by
  induction members generalizing ps with
  | nil =>
    cases ps with
    | nil => rfl
    | cons p ps => simp at h
  | cons b rest ih =>
    cases ps with
    | nil => simp at h
    | cons p ps =>
      simp only [List.map_cons, List.cons.injEq] at h
      rw [ports?, number?_eq_some h.1, ih h.2]

/-- What a member list spells has its length, and repeats a port where it repeats a byte. -/
theorem map_val_of_ports? {members : List Byte} {ps : List PortNo} (h : ports? members = some ps) :
    members.map BitVec.toNat = ps.map Fin.val := by
  induction members generalizing ps with
  | nil => cases h; rfl
  | cons b rest ih =>
    rw [ports?] at h
    split at h
    · next p ps' hp hps =>
      cases h
      have hb : b.toNat = p.val := by
        unfold number? at hp
        split at hp
        · cases hp; rfl
        · cases hp
      rw [List.map_cons, List.map_cons, hb, ih hps]
    · cases h

theorem nodup_iff_of_ports? {members : List Byte} {ps : List PortNo}
    (h : members.map BitVec.toNat = ps.map Fin.val) :
    members.length = ps.length ∧ (members.Nodup ↔ ps.Nodup) := by
  refine ⟨by simpa using congrArg List.length h, ?_⟩
  rw [← List.nodup_map_iff (f := BitVec.toNat) fun _ _ => BitVec.eq_of_toNat_eq, h,
    List.nodup_map_iff Fin.val_injective]

theorem not_none_of_some {α : Type} {o : Option α} {x : α} (hx : o = some x) : ¬ o = none := by
  simp [hx]

theorem target?_eq_none {kind number : Byte} (h : 2 ≤ kind.toNat ∨ 64 ≤ number.toNat) :
    target? kind number = none := by
  unfold target?
  obtain h | h := h
  · rw [code?_eq_none (by simpa using h)]
  · rw [number?_eq_none h]
    cases code? [true, false] kind with
    | none => rfl
    | some b => cases b <;> rfl

section
variable {s : State} (htake : s.takesCommand = true) (tag : Byte)
include htake

theorem exec_groupSet_of_refused {group : Byte} {members : List Byte}
    (h : 64 ≤ group.toNat ∨ (∃ b ∈ members, 64 ≤ b.toNat) ∨ 16 < members.length ∨
      ¬ members.Nodup) :
    exec (.groupSet tag group members) s = .next (s.reply tag Kind.groupSet .badArg) := by
  have hexec : exec (.groupSet tag group members) s = .next _ :=
    exec_of_command htake fun _ => rfl
  rw [hexec]
  obtain h | h := h
  · rw [number?_eq_none h]
  · cases number? 64 group with
    | none => rfl
    | some g =>
      cases hps : ports? members with
      | none => rfl
      | some ps =>
        obtain ⟨hlen, hnodup⟩ := nodup_iff_of_ports? (map_val_of_ports? hps)
        obtain h | h := h
        · rw [ports?_eq_none h] at hps
          cases hps
        · rw [hlen, hnodup] at h
          exact congrArg _ (if_pos h)

theorem exec_groupSet_of_ports {group : Byte} {members : List Byte} {g : GroupNo}
    {ps : List PortNo} (hg : group.toNat = g.val)
    (hps : members.map BitVec.toNat = ps.map Fin.val) (hlen : ps.length ≤ 16) (hnodup : ps.Nodup) :
    exec (.groupSet tag group members) s =
      .next (if s.committing then s.reply tag Kind.groupSet .busy
        else (s.beginService tag Kind.groupSet).modArbiter fun a =>
          { a with hostWaiting := some (.groupSet g ps) }) := by
  have hexec : exec (.groupSet tag group members) s = .next _ :=
    exec_of_command htake fun _ => rfl
  rw [hexec, number?_eq_some hg, ports?_eq_some hps]
  exact congrArg _ (if_neg (by simp [hnodup, hlen.not_gt]))

theorem exec_talkForce_of_refused {number function src kind target : Byte} (level : Half)
    {cls : Byte}
    (h : 16 ≤ number.toNat ∨ function = 0 ∨ 4 ≤ function.toNat ∨ 64 ≤ src.toNat ∨
      2 ≤ kind.toNat ∨ 64 ≤ target.toNat ∨ 4 ≤ cls.toNat) :
    exec (.talkForce tag number function src kind target level cls) s =
      .next (s.reply tag Kind.talkForce .badArg) := by
  have hexec : exec (.talkForce tag number function src kind target level cls) s = .next _ :=
    exec_of_command htake fun _ => rfl
  rw [hexec]
  split
  · next n f p t c hn hf hp ht hc =>
    have hfun : f = .noFunction := by
      obtain h | rfl | h | h | h | h | h := h
      · exact (not_none_of_some hn (number?_eq_none h)).elim
      · cases hf; rfl
      · exact (not_none_of_some hf (code?_eq_none h)).elim
      · exact (not_none_of_some hp (number?_eq_none h)).elim
      · exact (not_none_of_some ht (target?_eq_none (.inl h))).elim
      · exact (not_none_of_some ht (target?_eq_none (.inr h))).elim
      · exact (not_none_of_some hc (number?_eq_none h)).elim
    rw [if_pos hfun]
  · rfl

theorem exec_keySet_of_refused {line addr key function kind target : Byte} (level : Half)
    {cls mode : Byte}
    (h : 2 ≤ line.toNat ∨ 16 ≤ addr.toNat ∨ 32 ≤ key.toNat ∨ 4 ≤ function.toNat ∨
      2 ≤ kind.toNat ∨ 64 ≤ target.toNat ∨ 4 ≤ cls.toNat ∨ 3 ≤ mode.toNat) :
    exec (.keySet tag line addr key function kind target level cls mode) s =
      .next (s.reply tag Kind.keySet .badArg) := by
  have hexec : exec (.keySet tag line addr key function kind target level cls mode) s = .next _ :=
    exec_of_command htake fun _ => rfl
  rw [hexec]
  split
  · next l a k f t c m hl ha hk hf ht hc hm =>
    obtain h | h | h | h | h | h | h | h := h
    · exact (not_none_of_some hl (number?_eq_none h)).elim
    · exact (not_none_of_some ha (number?_eq_none h)).elim
    · exact (not_none_of_some hk (number?_eq_none h)).elim
    · exact (not_none_of_some hf (code?_eq_none h)).elim
    · exact (not_none_of_some ht (target?_eq_none (.inl h))).elim
    · exact (not_none_of_some ht (target?_eq_none (.inr h))).elim
    · exact (not_none_of_some hc (number?_eq_none h)).elim
    · exact (not_none_of_some hm (code?_eq_none h)).elim
  · rfl

theorem exec_talkDrop_of_refused {selector number : Byte}
    (h : 2 ≤ selector.toNat ∨ (selector = 0 ∧ 16 ≤ number.toNat) ∨
      (selector = 1 ∧ 128 ≤ number.toNat)) :
    exec (.talkDrop tag selector number) s = .next (s.reply tag Kind.talkDrop .badArg) := by
  have hexec : exec (.talkDrop tag selector number) s = .next _ :=
    exec_of_command htake fun _ => rfl
  rw [hexec]
  obtain h | ⟨rfl, h⟩ | ⟨rfl, h⟩ := h
  · rw [code?_eq_none (by simpa using h)]
  · rw [number?_eq_none h]
    rfl
  · rw [number?_eq_none h]
    rfl

end

/-- Settles O41: each command by its operands. -/
theorem arbiterCommandsWaitAndKeySetActs : Obligations.ArbiterCommandsWaitAndKeySetActs := by
  intro tag s htake waits
  refine ⟨fun group members => ⟨fun h => ?_, fun g ps hg hps hlen hnodup => ⟨fun hbusy => ?_,
    fun hidle => ?_⟩⟩, fun number function src kind target level cls => ⟨fun h => ?_,
    fun n f p t c hn hf hne hp ht hc => ?_⟩, fun selector number => ⟨fun h => ?_,
    fun n hsel hn => ?_, fun id hsel hid => ?_⟩,
    fun line addr key function kind target level cls mode => ⟨fun h => ?_,
    fun k f t c m hl ha hk hf ht hc hm => ?_⟩⟩
  · exact completes_of_reply (exec_groupSet_of_refused htake tag h) rfl rfl
  · have hexec := exec_groupSet_of_ports htake tag hg hps hlen hnodup
    rw [if_pos (s.committing_iff.mpr hbusy)] at hexec
    exact completes_of_reply hexec rfl rfl
  · rw [exec_groupSet_of_ports htake tag hg hps hlen hnodup, if_neg (mt s.committing_iff.mp hidle)]
    rfl
  · exact completes_of_reply (exec_talkForce_of_refused htake tag level h) rfl rfl
  · have hexec : exec (.talkForce tag number function src kind target level cls) s = .next _ :=
      exec_of_command htake fun _ => rfl
    rw [hexec, number?_eq_some hn, hf, number?_eq_some hp, ht, number?_eq_some hc]
    simp only [if_neg hne, not_inRange_zero, clampTo_zero]
    rfl
  · exact completes_of_reply (exec_talkDrop_of_refused htake tag h) rfl rfl
  · have hexec : exec (.talkDrop tag selector number) s = .next _ :=
      exec_of_command htake fun _ => rfl
    rw [hexec, hsel, number?_eq_some hn]
    rfl
  · have hexec : exec (.talkDrop tag selector number) s = .next _ :=
      exec_of_command htake fun _ => rfl
    rw [hexec, hsel, number?_eq_some hid]
    rfl
  · exact completes_of_reply (exec_keySet_of_refused htake tag level h) rfl rfl
  · have hexec : exec (.keySet tag line addr key function kind target level cls mode) s =
        .next _ := exec_of_command htake fun _ => rfl
    rw [number?_eq_some hl, number?_eq_some ha, number?_eq_some hk, hf, ht,
      number?_eq_some hc, hm] at hexec
    simp only [okOr_not_inRange_zero, clampTo_zero] at hexec
    exact completes_of_reply hexec rfl rfl

end Machine

end Sys2Proof
end

section
/-! PROOFS. The Alignment Probe (O38, O40): what the end of a probe is, the requests, and the rounds. -/

namespace Sys2Proof.Machine

/-! ## The end of a probe (R88) -/

/-- The probe settling after its end (R88, R89). -/
def Probe.ended (e : Probe) : Probe :=
  { e with run := none, engine := .settling, settle := 4112 }

namespace State

/-- The cancel slots once the slot of a port has been zero-filled (R73). -/
def zeroFilled (s : State) (p : PortNo) : Table 24 CancelSlot := (s.zeroFillSlot p).cancel

theorem zeroFillSlot_eq (s : State) (p : PortNo) :
    s.zeroFillSlot p = { s with cancel := s.zeroFilled p } := by
  unfold zeroFilled zeroFillSlot
  split <;> rfl

theorem zeroFilled_get {s : State} {p : PortNo} {c : CancelSection} (h : (s.port p).cancel = some c)
    (k : SlotNo) : (s.zeroFilled p).get k =
      if k = c.slot then { s.slot k with history := [] } else s.slot k := by
  have hk := s.slot_modSlot c.slot k fun x => { x with history := [] }
  simp only [zeroFilled, zeroFillSlot, h]
  refine hk.trans ?_
  split
  · next heq => rw [heq]
  · rfl

/-- The locked delay written does not move the port's slot. -/
theorem zeroFilled_writeDelay (s : State) (p : PortNo) (delay : Nat) :
    (s.writeDelay p delay).zeroFilled p = s.zeroFilled p := by
  have hport : (s.writeDelay p delay).port p =
      { s.port p with
        cancel := (s.port p).cancel.map fun c => { c with lockedDelay := some delay } } := by
    rw [writeDelay, port_modPort, if_pos rfl]
  unfold zeroFilled zeroFillSlot
  rw [hport]
  cases (s.port p).cancel <;> rfl

section
variable {s : State} {r : ProbeRun} (hrun : s.probe.run = some r)
include hrun

/-- An end without a delay: the slot zero-filled, the report, and the settle period. -/
theorem endProbe_of_ne_locked {result : ProbeResult} (hresult : result ≠ .locked) :
    s.endProbe result =
      { s with cancel := s.zeroFilled r.port, probe := s.probe.ended }.report
        (.probeResult r.port result none (some (r.stage, r.candidate)) r.rounds s.time) := by
  simp only [endProbe, hrun, if_neg hresult, zeroFillSlot_eq]
  rfl

theorem endProbe_locked :
    s.endProbe .locked =
      { s.writeDelay r.port r.candidate with
        cancel := s.zeroFilled r.port, probe := s.probe.ended }.report
        (.probeResult r.port .locked (some r.candidate) (some (r.stage, r.candidate)) r.rounds
          s.time) := by
  simp only [endProbe, hrun, if_true, zeroFillSlot_eq, zeroFilled_writeDelay]
  rfl

end

/-! ## Aborting and unqueueing -/

theorem underProbe_iff (s : State) (p : PortNo) :
    s.underProbe p = true ↔ ∃ r, s.probe.run = some r ∧ r.port = p := by
  unfold underProbe
  cases s.probe.run with
  | none => simp
  | some r => simp

theorem abortProbe_of_not {s : State} {p : PortNo} {asReturn : Bool}
    (h : ∀ r, s.probe.run = some r → ¬ (r.port = p ∨ (asReturn = true ∧ r.returnSource = p))) :
    s.abortProbe p asReturn = s := by
  unfold abortProbe
  split
  · exact if_neg (h _ ‹_›)
  · rfl

theorem abortProbe_of_run {s : State} {p : PortNo} {asReturn : Bool} {r : ProbeRun}
    (hrun : s.probe.run = some r) (h : r.port = p ∨ (asReturn = true ∧ r.returnSource = p)) :
    s.abortProbe p asReturn = s.endProbe .aborted := by
  rw [abortProbe, hrun]
  exact if_pos h

theorem unqueueProbe_of_not {s : State} {p : PortNo} (h : p ∉ s.probe.queue) :
    s.unqueueProbe p = s := if_neg (by simpa using h)

theorem unqueueProbe_of_queued {s : State} {p : PortNo} (h : p ∈ s.probe.queue) :
    s.unqueueProbe p =
      (s.modProbe fun e => { e with queue := e.queue.filter (· ≠ p) }).report
        (.probeResult p .aborted none none 0 s.time) := if_pos (by simpa using h)

end State

/-! ## PROBE (R76) -/

/-- The settings a PROBE carries, clamped, in place of the engine's. -/
def Probe.withSettings (e : Probe) (settings : Option (BitVec 24 × BitVec 24)) : Probe :=
  { e with
    level := (settings.map fun x => min 8388607 x.1.toNat).getD e.level
    threshold := (settings.map fun x => min 8388607 x.2.toNat).getD e.threshold }

/-- The result code of a PROBE that is not refused. -/
def probeCode (settings : Option (BitVec 24 × BitVec 24)) : ResultCode :=
  if settings.any fun x => decide (8388607 < x.1.toNat) || decide (8388607 < x.2.toNat)
  then .clamped else .ok

section
variable {s : State} (htake : s.takesCommand = true) (tag : Byte) {port : Byte}
  (settings : Option (BitVec 24 × BitVec 24))
include htake

theorem exec_probe_of_outOfRange (hport : numberOrNone? 64 port = none) :
    exec (.probe tag port settings) s = .next (s.reply tag Kind.probe .badArg) := by
  have hexec : exec (.probe tag port settings) s = .next _ := exec_of_command htake fun _ => rfl
  rw [hexec, hport]

theorem exec_probe_of_none (hport : numberOrNone? 64 port = some none) :
    exec (.probe tag port settings) s =
      .next ({ s with probe := s.probe.withSettings settings }.reply tag Kind.probe
        (probeCode settings)) := by
  have hexec : exec (.probe tag port settings) s = .next _ := exec_of_command htake fun _ => rfl
  rw [hexec, hport]
  cases settings with
  | none => rfl
  | some x =>
    simp only [Bool.not_and, not_inRange_zero, clampTo_zero]
    rfl

theorem exec_probe_of_port {p : PortNo} (hport : numberOrNone? 64 port = some (some p)) :
    exec (.probe tag port settings) s =
      .next (if ((s.port p).cancel.bind CancelSection.returnSource).isNone then
          s.reply tag Kind.probe .wrongClass
        else if s.probe.queue.contains p || s.underProbe p then s.reply tag Kind.probe .duplicate
        else if 16 ≤ s.probe.queue.length then s.reply tag Kind.probe .noRoom
        else
          { s with probe :=
              { s.probe.withSettings settings with queue := s.probe.queue ++ [p] } }.reply tag
            Kind.probe (probeCode settings)) := by
  have hexec : exec (.probe tag port settings) s = .next _ := exec_of_command htake fun _ => rfl
  rw [hexec, hport]
  cases settings with
  | none => rfl
  | some x =>
    simp only [Bool.not_and, not_inRange_zero, clampTo_zero]
    rfl

/-! ## PROBE-CANCEL (R77) -/

theorem exec_probeCancel_of_outOfRange (hport : 64 ≤ port.toNat) :
    exec (.probeCancel tag port) s = .next (s.reply tag Kind.probeCancel .badArg) := by
  have hexec : exec (.probeCancel tag port) s = .next _ := exec_of_command htake fun _ => rfl
  rw [hexec, number?_eq_none hport]

theorem exec_probeCancel_of_port {p : PortNo} (hport : port.toNat = p.val) :
    exec (.probeCancel tag port) s =
      .next (((s.reply tag Kind.probeCancel .ok).unqueueProbe p).abortProbe p false) := by
  have hexec : exec (.probeCancel tag port) s = .next _ := exec_of_command htake fun _ => rfl
  rw [hexec, number?_eq_some hport]

end

theorem isNone_returnSource_iff (x : Port) :
    (x.cancel.bind CancelSection.returnSource).isNone = true ↔
      ¬ ∃ c, x.cancel = some c ∧ c.returnSource ≠ none := by
  cases x.cancel <;> simp

/-- Settles O38: PROBE by its checks in order; PROBE-CANCEL by where the request stands. -/
theorem probeRequestsQueueAndCancel : Obligations.ProbeRequestsQueueAndCancel := by
  intro tag port settings s htake e set code
  refine ⟨fun hport hne => ⟨?_, ?_⟩, fun hport => ⟨?_, ?_⟩, fun p hport => ?_, ?_⟩
  · exact completes_of_reply
      (exec_probe_of_outOfRange htake tag settings (numberOrNone?_eq_none hport hne)) rfl rfl
  · exact completes_of_reply (exec_probeCancel_of_outOfRange htake tag hport) rfl rfl
  · subst hport
    exact completes_of_reply
      (exec_probe_of_none htake tag settings (numberOrNone?_noneCode 64)) rfl rfl
  · subst hport
    exact completes_of_reply (exec_probeCancel_of_outOfRange htake tag (by decide)) rfl rfl
  · intro measurable wanted
    have hprobe := exec_probe_of_port htake tag settings
      (numberOrNone?_eq_some (by norm_num) hport)
    have hcancel := exec_probeCancel_of_port htake tag hport
    have hwanted : (s.probe.queue.contains p || s.underProbe p) = true ↔ wanted := by
      rw [Bool.or_eq_true, State.underProbe_iff, List.contains_iff_mem]
    refine ⟨fun hno => ?_, fun hm hw => ?_, fun hm hw hfull => ?_, fun hm hw hroom => ?_,
      fun hw => ?_, fun hqueued hrun => ?_, fun r hrun hr hqueued => ?_⟩
    · rw [if_pos ((isNone_returnSource_iff _).mpr hno)] at hprobe
      exact completes_of_reply hprobe rfl rfl
    · rw [if_neg ((isNone_returnSource_iff _).not.mpr (not_not.mpr hm)), if_pos (hwanted.mpr hw)]
        at hprobe
      exact completes_of_reply hprobe rfl rfl
    · rw [if_neg ((isNone_returnSource_iff _).not.mpr (not_not.mpr hm)), if_neg (mt hwanted.mp hw),
        if_pos hfull] at hprobe
      exact completes_of_reply hprobe rfl rfl
    · rw [if_neg ((isNone_returnSource_iff _).not.mpr (not_not.mpr hm)), if_neg (mt hwanted.mp hw),
        if_neg hroom.not_ge] at hprobe
      exact completes_of_reply hprobe rfl rfl
    · rw [State.unqueueProbe_of_not (by rw [State.reply_probe]; exact fun h => hw (.inl h)),
        State.abortProbe_of_not (by
          rw [State.reply_probe]
          rintro r hr (h | ⟨h, -⟩)
          · exact hw (.inr ⟨r, hr, h⟩)
          · cases h)] at hcancel
      exact completes_of_reply hcancel rfl rfl
    · rw [State.unqueueProbe_of_queued (by rw [State.reply_probe]; exact hqueued),
        State.abortProbe_of_not (by
          rw [State.report_probe, State.modProbe_probe, State.reply_probe]
          rintro r hr (h | ⟨h, -⟩)
          · exact hrun r hr h
          · cases h), State.time, State.reply_timing] at hcancel
      exact ⟨_, hcancel, State.reply_then_report _ rfl rfl
        ((s.reply_isBut ..).after (f := (·.modProbe fun e =>
          { e with queue := e.queue.filter (· ≠ p) })) fun _ _ _ => rfl)⟩
    · have hrun' : (s.reply tag Kind.probeCancel .ok).probe.run = some r := by
        rw [State.reply_probe]; exact hrun
      have htime : (s.reply tag Kind.probeCancel .ok).time = s.timing.stationTime := by
        rw [State.time, State.reply_timing]
      have hfill : (s.reply tag Kind.probeCancel .ok).zeroFilled p = s.zeroFilled p := by
        unfold State.zeroFilled State.zeroFillSlot
        simp only [State.port, State.reply_ports]
        cases (s.ports.get p).cancel <;> simp [State.slot]
      rw [State.unqueueProbe_of_not (by rw [State.reply_probe]; exact hqueued),
        State.abortProbe_of_run hrun' (.inl hr), State.endProbe_of_ne_locked hrun' (by simp), hr,
        hfill, htime, State.reply_probe] at hcancel
      obtain ⟨hforms, hqueues, hbut⟩ := State.reply_then_report
        (u := { s.reply tag Kind.probeCancel .ok with
          cancel := s.zeroFilled p, probe := s.probe.ended })
        (.probeResult p .aborted none (some (r.stage, r.candidate)) r.rounds s.timing.stationTime)
        rfl rfl ((s.reply_isBut ..).after (f := fun u =>
          { u with cancel := s.zeroFilled p, probe := s.probe.ended }) fun _ _ _ => rfl)
      refine ⟨_, hcancel, hforms, hqueues, fun c hc => ?_, ?_⟩
      · rw [State.slot, State.report_cancel]
        simp [State.zeroFilled_get hc]
      · rw [State.report_cancel]; exact hbut
  · have hget : exec (.probeGet tag) s = .next _ := exec_of_command htake fun _ => rfl
    exact completes_of_reply hget rfl rfl

/-! ## The rounds (R83 to R89) -/

section
variable {s : State} (hheld : s.resetHeld = false) {r : ProbeRun} (hrun : s.probe.run = some r)
include hheld hrun

theorem exec_windowJudgement_of_done (hphase : r.phase = .marker)
    (hpasses : r.candidate + 16 ≤ r.passes) :
    exec .windowJudgement s =
      .next (if 12 ≤ r.seen then
          if r.stage = .fine then s.endProbe .locked
          else s.modProbe fun e => { e with run := some r.markSeen }
        else if 16 ≤ r.index then s.endProbe (if r.stage = .coarse then .noneSeen else .unstable)
        else s.modProbe fun e => { e with run := some { r with phase := .gap, passes := 0 } }) := by
  have hexec : exec .windowJudgement s = .next _ := exec_of_event hheld fun _ => rfl
  have hdone : r.windowDone = true := by simp [ProbeRun.windowDone, hphase, hpasses]
  simp only [hexec, hrun, if_pos hdone]

theorem exec_gapExpiry_of_done (hphase : r.phase = .gap) (hpasses : 4112 ≤ r.passes) :
    exec .gapExpiry s = .next (s.modProbe fun e => { e with run := some r.advance }) := by
  have hexec : exec .gapExpiry s = .next _ := exec_of_event hheld fun _ => rfl
  have hdone : r.gapDone = true := by simp [ProbeRun.gapDone, hphase, hpasses]
  simp only [hexec, hrun, if_pos hdone]

omit hheld in
/-- An end without a delay offers its report and zero-fills the slot (R88). -/
theorem endProbe_ends {result : ProbeResult} (hresult : result ≠ .locked) :
    s.Offers (s.endProbe result)
        (.probeResult r.port result none (some (r.stage, r.candidate)) r.rounds
          s.timing.stationTime) ∧
      (s.endProbe result).ports = s.ports ∧
      (∀ k, (s.endProbe result).slot k = (s.zeroFilled r.port).get k) ∧
      State.IsBut
        { s with
          probe := s.probe.ended, cancel := (s.endProbe result).cancel
          ports := (s.endProbe result).ports } (s.endProbe result) := by
  rw [State.endProbe_of_ne_locked hrun hresult]
  refine ⟨State.report_offers { s with cancel := _, probe := _ } _, State.report_ports _ _,
    fun k => ?_, ?_⟩
  · rw [State.slot, State.report_cancel]
  · rw [State.report_cancel, State.report_ports]
    exact State.report_isBut _ _

omit hheld in
theorem endProbe_locked_ends :
    s.Offers (s.endProbe .locked)
        (.probeResult r.port .locked (some r.candidate) (some (r.stage, r.candidate)) r.rounds
          s.timing.stationTime) ∧
      (s.endProbe .locked).ports = (s.writeDelay r.port r.candidate).ports ∧
      (∀ k, (s.endProbe .locked).slot k = (s.zeroFilled r.port).get k) ∧
      State.IsBut
        { s with
          probe := s.probe.ended, cancel := (s.endProbe .locked).cancel
          ports := (s.endProbe .locked).ports } (s.endProbe .locked) := by
  rw [State.endProbe_locked hrun]
  refine ⟨State.report_offers { s.writeDelay r.port r.candidate with cancel := _, probe := _ } _,
    State.report_ports _ _, fun k => ?_, ?_⟩
  · rw [State.slot, State.report_cancel]
  · rw [State.report_cancel, State.report_ports]
    exact State.report_isBut _ _

end

/-- The slot of the probed port is empty after the end, the others as they were. -/
theorem slots_of_zeroFilled {s t : State} {p : PortNo} (ht : ∀ k, t.slot k = (s.zeroFilled p).get k)
    {c : CancelSection} (hc : (s.port p).cancel = some c) :
    (t.slot c.slot).history = [] ∧ ∀ k, k ≠ c.slot → t.slot k = s.slot k := by
  refine ⟨?_, fun k hk => ?_⟩
  · rw [ht, State.zeroFilled_get hc, if_pos rfl]
  · rw [ht, State.zeroFilled_get hc, if_neg hk]

theorem candidateOf_coarse (r : ProbeRun) (index : Nat) :
    candidateOf r .coarse index = 256 * index - 1 := rfl

theorem candidateOf_medium {r : ProbeRun} {c : Nat} (h : r.coarse = some c) (index : Nat) :
    candidateOf r .medium index = c + 16 * index - 256 := by
  change r.coarse.getD 0 + 16 * index - 256 = _
  rw [h, Option.getD_some]

theorem candidateOf_fine {r : ProbeRun} {m : Nat} (h : r.medium = some m) (index : Nat) :
    candidateOf r .fine index = m + index - 16 := by
  change r.medium.getD 0 + index - 16 = _
  rw [h, Option.getD_some]

/-- The round that follows, once its stage, index and candidate are known. -/
theorem advance_eq {r : ProbeRun} {stage : ProbeStage} {index candidate : Nat}
    (hround : nextRound r = (stage, index)) (hcandidate : candidateOf r stage index = candidate) :
    r.advance =
      { r with
        stage := stage, index := index, candidate := candidate, phase := .marker
        passes := 0, seen := 0, rounds := r.rounds + 1 } := by
  rw [ProbeRun.advance, hround, hcandidate]

/-- Settles O40: the window, the gap and the settle period by their counts; an end by its result. -/
theorem probeRoundsLockOrEnd : Obligations.ProbeRoundsLockOrEnd := by
  intro s hheld e
  refine ⟨fun r hrun hphase hpasses => ?_, fun r hrun hphase hpasses => ?_,
    fun heng hzero => ?_, fun hidle => ?_⟩
  · intro gap ends
    have hexec := exec_windowJudgement_of_done hheld hrun hphase hpasses
    have hends {result : ProbeResult} (hresult : result ≠ .locked)
        (h : exec .windowJudgement s = .next (s.endProbe result)) : ends result none := by
      obtain ⟨hoffers, hports, hslots, hbut⟩ := endProbe_ends hrun hresult
      exact ⟨_, h, hoffers, hports, fun c hc => slots_of_zeroFilled hslots hc, hbut⟩
    refine ⟨fun hseen hstage => ?_, fun hseen hstage => ?_, fun hseen hstage => ?_,
      fun hseen hindex => ?_, fun hseen hindex hstage => ?_, fun hseen hindex hstage => ?_⟩
    · rw [hexec, if_pos hseen, if_neg (by simp [hstage]), ProbeRun.markSeen, hstage]
      rfl
    · rw [hexec, if_pos hseen, if_neg (by simp [hstage]), ProbeRun.markSeen, hstage]
      rfl
    · rw [if_pos hseen, if_pos hstage] at hexec
      obtain ⟨hoffers, hports, hslots, hbut⟩ := endProbe_locked_ends hrun
      exact ⟨_, hexec, hoffers, hports, fun c hc => slots_of_zeroFilled hslots hc, hbut⟩
    · rw [hexec, if_neg hseen.not_ge, if_neg hindex.not_ge]
      rfl
    · rw [if_neg hseen.not_ge, if_pos hindex, if_pos hstage] at hexec
      exact hends (by simp) hexec
    · rw [if_neg hseen.not_ge, if_pos hindex, if_neg hstage] at hexec
      exact hends (by simp) hexec
  · intro next
    have hexec := exec_gapExpiry_of_done hheld hrun hphase hpasses
    have hnext {stage : ProbeStage} {index candidate : Nat} (hround : nextRound r = (stage, index))
        (hcandidate : candidateOf r stage index = candidate) :
        exec .gapExpiry s = .next (next stage index candidate) := by
      rw [hexec, advance_eq hround hcandidate]
      rfl
    refine ⟨fun hstage hc => ?_, fun c hstage hc => ?_, fun c hstage hc hm => ?_,
      fun m hstage hm => ?_, fun m hstage hm => ?_⟩
    · exact hnext (by rw [nextRound, hstage, hc]) (candidateOf_coarse r _)
    · exact hnext (by rw [nextRound, hstage, hc]) (candidateOf_medium hc 1)
    · exact hnext (by rw [nextRound, hstage, hc, hm]) (candidateOf_medium hc _)
    · exact hnext (by rw [nextRound, hstage, hm]) (candidateOf_fine hm 1)
    · exact hnext (by rw [nextRound, hstage]) (candidateOf_fine hm _)
  · have hexec : exec .settleExpiry s = .next _ := exec_of_event hheld fun _ => rfl
    rw [hexec, if_pos ⟨heng, hzero⟩]
    rfl
  · have hexec : exec .settleExpiry s = .next _ := exec_of_event hheld fun _ => rfl
    rw [hexec, if_neg (by rintro ⟨h, h0⟩; exact hidle.elim (· h) (· h0))]

end Sys2Proof.Machine
end

section
/-! PROOFS. The arbiter's jobs complete (O29, O30): what becomes of the talk, of the work in service, and
of what waits to be sent. -/

namespace Sys2Proof.Machine

/-! ## The talk list -/

/-- The list with one talk rewritten is read back as the rewritten talk. -/
theorem find?_rewritten (talks : List Talk) (id i : TalkId) {f : Talk → Talk}
    (hid : ∀ x, (f x).id = x.id) :
    (talks.map fun t => if t.id = id then f t else t).find? (fun t => t.id = i) =
      if i = id then (talks.find? fun t => t.id = id).map f else talks.find? fun t => t.id = i := by
  induction talks with
  | nil => simp
  | cons x xs ih =>
    rw [List.map_cons, List.find?_cons, ih]
    by_cases hx : x.id = id
    · by_cases hi : i = id
      · simp [hx, hi, hid]
      · simp [hx, hi, hid, Ne.symm hi]
    · by_cases hi : i = id
      · simp [hx, hi]
      · simp only [hx, hi, if_false, List.find?_cons]

theorem map_id_rewritten (talks : List Talk) (id : TalkId) {f : Talk → Talk}
    (hid : ∀ x, (f x).id = x.id) :
    (talks.map fun t => if t.id = id then f t else t).map Talk.id = talks.map Talk.id := by
  rw [List.map_map]
  refine List.map_congr_left fun x _ => ?_
  rw [Function.comp_apply]
  split
  · exact hid x
  · rfl

/-- A talk as its begin job leaves it: the outcomes recorded, moved by the notices held, and ACTIVE. -/
def Talk.begun (t : Talk) (results : List PlaceResult) : Talk :=
  { t.heldNotices.foldl Machine.Talk.applyNotice
      { t with outcomes := some (results.map PlaceResult.outcome) } with
    heldNotices := [], phase := .active }

/-- Notices move the outcomes of a talk alone. -/
theorem foldl_applyNotice_frame (held : List HeldNotice) (t : Talk) :
    held.foldl Machine.Talk.applyNotice t =
      { t with outcomes := (held.foldl Machine.Talk.applyNotice t).outcomes } := by
  induction held generalizing t with
  | nil => rfl
  | cons n ns ih => exact ih (Machine.Talk.applyNotice t n)

theorem begun_frame (t : Talk) (results : List PlaceResult) :
    t.begun results =
      { t with outcomes := (t.begun results).outcomes, heldNotices := [], phase := .active } := by
  unfold Talk.begun
  rw [foldl_applyNotice_frame]

@[simp] theorem begun_id (t : Talk) (results : List PlaceResult) : (t.begun results).id = t.id := by
  rw [begun_frame]

/-- The talks once the begin job of a talk has completed. -/
def Arbiter.begun (a : Arbiter) (id : TalkId) (results : List PlaceResult) : Arbiter :=
  { a with talks := a.talks.map fun t => if t.id = id then t.begun results else t }

/-- A talk whose end has been decided (R122). -/
def Talk.endedFor (t : Talk) (reason : EndReason) : Talk :=
  { t with phase := .ending, endReason := some reason }

/-- The end a talk was asked for while BEGINNING, taken up (R119). -/
def Arbiter.takeEnd (a : Arbiter) (id : TalkId) (request : Option EndReason) : Arbiter :=
  match request with
  | none => a
  | some reason =>
    { a with
      talks := a.talks.map fun t =>
        if t.id = id then t.endedFor reason else t
      pendingEnds := a.pendingEnds ++ [id] }

theorem takeEnd_frame (a : Arbiter) (id : TalkId) (request : Option EndReason) :
    a.takeEnd id request =
      { a with
        talks := (a.takeEnd id request).talks, pendingEnds := (a.takeEnd id request).pendingEnds } := by
  cases request <;> rfl

namespace State

theorem endService_of_some {s : State} {v : Service} (h : s.control.service = some v)
    (code : Bool → ResultCode) (fields : ReplyFields) :
    s.endService code fields =
      ({ s with control := { s.control with service := none } }).reply v.tag v.kind (code v.clamped)
        fields := by
  rw [endService, h]

theorem endService_of_none {s : State} (h : s.control.service = none) (code : Bool → ResultCode)
    (fields : ReplyFields) : s.endService code fields = s := by
  rw [endService, h]

theorem IsBut.exists_waiting {c t : State} (h : c.IsBut t) :
    ∃ rs tx q,
      t = { c with control := { c.control with replies := rs, tx := tx }, reports := q } :=
  ⟨_, _, _, h⟩

/-- The work in service done with: a key record is removed, a host command answered. -/
def finishWork (s : State) (fields : ReplyFields) : State :=
  match s.arbiter.work with
  | some (.record l _) => s.finishRecord l
  | some (.host _) => (s.endService okOr fields).modArbiter fun a => { a with work := none }
  | none => s

/-- The parts of the state that the completed work can touch, and what waits to be sent. -/
theorem finishWork_eq (s : State) (fields : ReplyFields) :
    (∀ l r, s.arbiter.work = some (.record l r) →
      s.finishWork fields =
        { s with
          keyQueues := s.keyQueues.set l (s.keyQueue l).removeHead
          arbiter := { s.arbiter with work := none } }) ∧
    (∀ w v, s.arbiter.work = some (.host w) → s.control.service = some v →
      s.finishWork fields =
        ({ s with control := { s.control with service := none } }.reply v.tag v.kind
          (okOr v.clamped) fields).modArbiter fun a => { a with work := none }) ∧
    (∀ w, s.arbiter.work = some (.host w) → s.control.service = none →
      s.finishWork fields = { s with arbiter := { s.arbiter with work := none } }) ∧
    (s.arbiter.work = none → s.finishWork fields = s) := by
  refine ⟨fun l r hwork => ?_, fun w v hwork hservice => ?_, fun w hwork hservice => ?_,
    fun hwork => ?_⟩
  · rw [finishWork, hwork]; rfl
  · rw [finishWork, hwork]; simp only [endService_of_some hservice]
  · rw [finishWork, hwork]; simp only [endService_of_none hservice]; rfl
  · rw [finishWork, hwork]

/-- The completed work changes its own parts and what waits to be sent, and offers no report. -/
theorem finishWork_frame (s : State) (fields : ReplyFields) :
    s.QueuesNoReport (s.finishWork fields) ∧
      ∃ work keyQueues service rs tx q,
        s.finishWork fields =
          { s with
            arbiter := { s.arbiter with work := work }
            keyQueues := keyQueues
            control := { s.control with service := service, replies := rs, tx := tx }
            reports := q } := by
  obtain ⟨hrecord, hanswered, hhost, hnone⟩ := s.finishWork_eq fields
  match hwork : s.arbiter.work with
  | some (.record l r) =>
    rw [hrecord l r hwork]
    exact ⟨⟨rfl, rfl⟩, none, _, _, _, _, _, rfl⟩
  | some (.host w) =>
    match hservice : s.control.service with
    | some v =>
      rw [hanswered w v hwork hservice]
      generalize hy : reply _ _ _ _ _ = y
      obtain ⟨-, hreports⟩ := hy ▸ reply_answers ..
      obtain ⟨rs, tx, q, rfl⟩ := (hy ▸ reply_isBut ..).exists_waiting
      exact ⟨hreports, none, _, none, rs, tx, q, rfl⟩
    | none =>
      rw [hhost w hwork hservice]
      exact ⟨⟨rfl, rfl⟩, none, _, _, _, _, _, rfl⟩
  | none =>
    rw [hnone hwork]
    exact ⟨⟨rfl, rfl⟩, _, _, _, _, _, _, rfl⟩

theorem finishWork_talks (s : State) (fields : ReplyFields) :
    (s.finishWork fields).arbiter.talks = s.arbiter.talks := by
  obtain ⟨-, work, keyQueues, service, rs, tx, q, hfinish⟩ := s.finishWork_frame fields
  rw [hfinish]

theorem talk?_modTalk (s : State) (id i : TalkId) {f : Talk → Talk} (hid : ∀ x, (f x).id = x.id) :
    (s.modTalk id f).talk? i = if i = id then (s.talk? id).map f else s.talk? i :=
  find?_rewritten s.arbiter.talks id i hid

/-- An end asked of an ACTIVE talk that is not a call. -/
theorem decideEnd_of_active {s : State} {id : TalkId} {t : Talk} (htalk : s.talk? id = some t)
    (hphase : t.phase = .active) (hfunction : t.function ≠ .call) (reason : EndReason) :
    s.decideEnd id reason = s.modArbiter (·.takeEnd id (some reason)) := by
  simp only [decideEnd, htalk, hphase, if_neg hfunction]
  rfl

/-- The completion of a begin job is TALK-BEGIN, then the work in service, then the end asked for. -/
theorem completeBegin_eq {s : State} {k : Talk} (htalk : s.talk? k.id = some k)
    (hfunction : k.function ≠ .call) (results : List PlaceResult) :
    s.completeBegin k.id results =
      (({ s with arbiter := s.arbiter.begun k.id results }.report
        (.talkBegin k.id (k.begun results).maker (k.begun results).function (k.begun results).target
          ((k.begun results).outcomes.getD []))).finishWork
            (.outcomes ((k.begun results).outcomes.getD []))).modArbiter
              (·.takeEnd k.id k.endRequested) := by
  have hbegun : (s.modTalk k.id (Talk.begun · results)).talk? k.id = some (k.begun results) := by
    rw [talk?_modTalk _ _ _ (begun_id · results), if_pos rfl, htalk, Option.map_some]
  generalize hu : { s with arbiter := s.arbiter.begun k.id results }.report _ = u
  have hreport : (s.modTalk k.id (Talk.begun · results)).reportBegin k.id = u := by
    rw [reportBegin, hbegun, ← hu]
    simp only [begun_id]
    rfl
  have harbiter : u.arbiter = s.arbiter.begun k.id results := by rw [← hu, report_arbiter]
  have htalk2 : u.talk? k.id = some (k.begun results) := by
    rw [talk?, harbiter]; exact hbegun
  have hwork : u.arbiter.work = s.arbiter.work := by rw [harbiter]; rfl
  have hfinish : u.finishWork (.outcomes ((k.begun results).outcomes.getD [])) =
      match s.arbiter.work with
      | some (.record l _) => u.finishRecord l
      | some (.host _) =>
        (u.endService okOr (.outcomes (((u.talk? k.id).bind Machine.Talk.outcomes).getD []))).modArbiter
          fun a => { a with work := none }
      | none => u := by
    rw [finishWork, hwork, htalk2]
    rfl
  have hcomplete : s.completeBegin k.id results =
      match (s.talk? k.id).bind Machine.Talk.endRequested with
      | some reason =>
        (u.finishWork (.outcomes ((k.begun results).outcomes.getD []))).decideEnd k.id reason
      | none => u.finishWork (.outcomes ((k.begun results).outcomes.getD [])) := by
    rw [hfinish, ← hreport]
    rfl
  rw [hcomplete, htalk, Option.bind_some]
  cases k.endRequested with
  | none => rfl
  | some reason =>
    refine decideEnd_of_active (t := k.begun results) ?_ ?_ ?_ reason
    · rw [talk?, finishWork_talks]
      exact htalk2
    · rw [begun_frame]
    · rw [begun_frame]
      exact hfunction

/-- What is queued before a step that queues nothing is all that is queued. -/
theorem QueuesReport.then_none {s u t : State} {r : Report} (h : s.QueuesReport u r)
    (hnone : u.QueuesNoReport t) : s.QueuesReport t r := by
  obtain ⟨hsent, hdropped⟩ := hnone
  simpa only [QueuesReport, hsent, hdropped] using h

/-- The replies of the completed work. -/
theorem finishWork_forms (s : State) (fields : ReplyFields) :
    (∀ l r, s.arbiter.work = some (.record l r) →
      s.FormsReplies (s.finishWork fields) [] ∧
        (s.finishWork fields).arbiter.work = none ∧
        (s.finishWork fields).keyQueues = s.keyQueues.set l (s.keyQueue l).removeHead ∧
        (s.finishWork fields).control.service = s.control.service) ∧
    ∀ w v, s.arbiter.work = some (.host w) → s.control.service = some v →
      s.FormsReplies (s.finishWork fields) [⟨v.tag, v.kind, okOr v.clamped, fields⟩] ∧
        (s.finishWork fields).arbiter.work = none ∧
        (s.finishWork fields).keyQueues = s.keyQueues ∧
        (s.finishWork fields).control.service = none := by
  obtain ⟨hrecord, hanswered, -, -⟩ := s.finishWork_eq fields
  refine ⟨fun l r hwork => ?_, fun w v hwork hservice => ?_⟩
  · rw [hrecord l r hwork]
    exact ⟨(List.append_nil _).symm, rfl, rfl, rfl⟩
  · rw [hanswered w v hwork hservice]
    generalize hy : reply _ _ _ _ _ = y
    obtain ⟨hforms, -⟩ := hy ▸ reply_answers ..
    obtain ⟨rs, tx, q, rfl⟩ := (hy ▸ reply_isBut ..).exists_waiting
    exact ⟨hforms, rfl, rfl, rfl⟩

end State

/-! ## The talk the end leaves -/

/-- The talks after a begin job: the one begun, then ENDING where its end was asked for. -/
theorem find?_takeEnd_begun {a : Arbiter} {k : Talk} {results : List PlaceResult}
    (htalk : a.talks.find? (fun t => t.id = k.id) = some k) (request : Option EndReason) (i : TalkId) :
    ((a.begun k.id results).takeEnd k.id request).talks.find? (fun t => t.id = i) =
      if i = k.id then
        some (match request with
          | none => k.begun results
          | some reason => (k.begun results).endedFor reason)
      else a.talks.find? fun t => t.id = i := by
  have hbegun (i : TalkId) : (a.begun k.id results).talks.find? (fun t => t.id = i) =
      if i = k.id then some (k.begun results) else a.talks.find? fun t => t.id = i := by
    rw [Arbiter.begun, find?_rewritten _ _ _ (begun_id · results), htalk, Option.map_some]
  cases request with
  | none => exact hbegun i
  | some reason =>
    refine (find?_rewritten _ _ _ (f := (Talk.endedFor · reason)) fun _ => rfl).trans ?_
    rw [hbegun, hbegun, if_pos rfl, Option.map_some]
    split <;> rfl

theorem map_id_takeEnd_begun (a : Arbiter) (id : TalkId) (results : List PlaceResult)
    (request : Option EndReason) :
    ((a.begun id results).takeEnd id request).talks.map Talk.id = a.talks.map Talk.id := by
  have hbegun : (a.begun id results).talks.map Talk.id = a.talks.map Talk.id :=
    map_id_rewritten _ _ (begun_id · results)
  cases request with
  | none => exact hbegun
  | some reason => exact (map_id_rewritten _ _ (f := (Talk.endedFor · reason)) fun _ => rfl).trans hbegun

/-- The writer serving the talk position is freed as its job completes. -/
theorem exec_writeJobComplete {s : State} {j : Job} (hheld : s.resetHeld = false)
    (hserving : s.writer.state = .servingTalk) (hpos : s.writer.talkPos = some j)
    (hops : j.ops = []) :
    exec .writeJobComplete s =
      .next (State.completeJob
        { s with writer := { s.writer with state := .free, talkPos := none } } j) := by
  have hexec : exec .writeJobComplete s = .next _ := exec_of_event hheld fun _ => rfl
  have hserved : s.jobServed? = some j := by rw [State.jobServed?, hserving]; exact hpos
  have hfree : s.freeWriter =
      { s with writer := { s.writer with state := .free, talkPos := none } } := by
    simp only [State.freeWriter, State.modWriter, hserving]
  rw [hexec, hserved, ← hfree]
  simp only [hops, List.isEmpty_nil, if_true]

/-- Settles O29: TALK-BEGIN, the work in service, and the end asked for, in that order. -/
theorem beginJobMakesTheTalkActive : Obligations.BeginJobMakesTheTalkActive := by
  intro s j k hheld hserving hpos hops hpurpose htalk hfunction active
  have hexec := exec_writeJobComplete hheld hserving hpos hops
  rw [State.completeJob, hpurpose] at hexec
  have hexec := hexec.trans (congrArg Host.Outcome.next (State.completeBegin_eq
    (s := { s with
      writer := { s.writer with state := .free, talkPos := none }
      arbiter := { s.arbiter with jobInFlight := none } }) htalk hfunction j.results))
  generalize hu : State.report _ _ = u at hexec
  obtain ⟨hformsU, hqueuesU⟩ := hu ▸ State.report_offers ..
  obtain ⟨rsU, txU, qU, rfl⟩ := (hu ▸ State.report_isBut ..).exists_waiting
  generalize hy : State.finishWork _ _ = y at hexec
  obtain ⟨hrecord, hanswered⟩ := hy ▸ State.finishWork_forms ..
  obtain ⟨hnone, work, keyQueues, service, rs, tx, q, rfl⟩ := hy ▸ State.finishWork_frame ..
  have harb := takeEnd_frame
    { Arbiter.begun { s.arbiter with jobInFlight := none } k.id j.results with work := work }
    k.id k.endRequested
  have hfind := find?_takeEnd_begun (a := { s.arbiter with jobInFlight := none, work := work })
    (results := j.results) htalk k.endRequested
  refine ⟨_, hexec, fun hend => ?_, fun reason hend => ?_, fun id hid => ?_,
    map_id_takeEnd_begun { s.arbiter with jobInFlight := none, work := work } _ _ _,
    congrArg Arbiter.jobInFlight harb, hqueuesU.then_none hnone, fun l r hwork => ?_,
    fun w v hwork hservice => ?_, ?_⟩
  · rw [hend] at hfind ⊢
    exact ⟨(hfind k.id).trans (if_pos rfl), rfl⟩
  · rw [hend] at hfind ⊢
    exact ⟨(hfind k.id).trans (if_pos rfl), rfl⟩
  · exact (hfind id).trans (if_neg hid)
  · obtain ⟨hforms, hnowork, hqueue, hservice⟩ := hrecord l r hwork
    exact ⟨hformsU.trans hforms, (congrArg Arbiter.work harb).trans hnowork, hqueue, hservice⟩
  · obtain ⟨hforms, hnowork, hqueue, hservice⟩ := hanswered w v hwork hservice
    exact ⟨hformsU.trans hforms, (congrArg Arbiter.work harb).trans hnowork, hqueue, hservice⟩
  · cases k.endRequested with
    | none => rfl
    | some reason => rfl

namespace State

/-- The completion of an end job is TALK-END, then the answer to the TALK-DROP it serves. -/
theorem completeEnd_eq {s : State} {k : Talk} {reason : EndReason} (htalk : s.talk? k.id = some k)
    (hreason : k.endReason = some reason) :
    s.completeEnd k.id =
      match s.arbiter.work with
      | some (.host _) =>
        (({ s with arbiter :=
            { s.arbiter with talks := s.arbiter.talks.filter fun x => x.id ≠ k.id } }.report
          (.talkEnd k.id k.maker reason)).endService fun _ => .ok).modArbiter
            fun a => { a with work := none }
      | _ => { s with arbiter :=
            { s.arbiter with talks := s.arbiter.talks.filter fun x => x.id ≠ k.id } }.report
          (.talkEnd k.id k.maker reason) := by
  rw [completeEnd, htalk]
  simp only [hreason, Option.getD_some]
  rfl

end State

/-- Settles O30: TALK-END, then the reply of a TALK-DROP in service; a level step takes its record away. -/
theorem endAndLevelJobsComplete : Obligations.EndAndLevelJobsComplete := by
  intro s j hheld hserving hpos hops writer
  have hexec := exec_writeJobComplete hheld hserving hpos hops
  refine ⟨fun k reason hpurpose htalk hreason => ?_, fun id l r hpurpose hwork => ?_⟩
  · intro gone
    rw [State.completeJob, hpurpose] at hexec
    have hexec := hexec.trans (congrArg Host.Outcome.next (State.completeEnd_eq
      (s := { s with
        writer := { s.writer with state := .free, talkPos := none }
        arbiter := { s.arbiter with jobInFlight := none } }) htalk hreason))
    generalize hu : State.report _ _ = u at hexec
    obtain ⟨hforms, hqueues⟩ := hu ▸ State.report_offers ..
    obtain ⟨rs, tx, q, rfl⟩ := (hu ▸ State.report_isBut ..).exists_waiting
    match hwork : s.arbiter.work with
    | some (.host w) =>
      rw [hwork] at hexec
      match hservice : s.control.service with
      | some v =>
        rw [State.endService_of_some (v := v)] at hexec
        on_goal 2 => exact hservice
        generalize hy : State.reply _ _ _ _ _ = y at hexec
        obtain ⟨hanswer, hnone⟩ := hy ▸ State.reply_answers ..
        obtain ⟨rs, tx, q, rfl⟩ := (hy ▸ State.reply_isBut ..).exists_waiting
        refine ⟨_, hexec, hqueues.then_none hnone, fun hno => absurd rfl (hno w), fun w' v' _ hv => ?_⟩
        cases hv
        exact ⟨hforms.trans hanswer, rfl⟩
      | none =>
        rw [State.endService_of_none] at hexec
        on_goal 2 => exact hservice
        exact ⟨_, hexec, hqueues, fun hno => absurd rfl (hno w), fun _ _ _ hv => nomatch hv⟩
    | some (.record l r) =>
      rw [hwork] at hexec
      exact ⟨_, hexec, hqueues, fun _ => ⟨hforms, rfl⟩, fun _ _ hw => nomatch hw⟩
    | none =>
      rw [hwork] at hexec
      exact ⟨_, hexec, hqueues, fun _ => ⟨hforms, rfl⟩, fun _ _ hw => nomatch hw⟩
  · rw [hexec, State.completeJob, hpurpose]
    simp only [State.completeLevel, State.modArbiter_arbiter, hwork]
    rfl

end Sys2Proof.Machine
end

section
/-! PROOFS. The mix pass (O32, O33, O34, O36): the Cancel Store's histories, the clips counted, and what
the pass leaves. -/

namespace Sys2Proof.Machine

/-! ## Histories (R68, R69) -/

/-- The sample a history holds at a position, as `CancelSlot.read` reads it. -/
def sampleAt (h : List (Nat × Sample)) (pos : Nat) : Sample :=
  match h.find? fun x => x.1 = pos with
  | some x => x.2
  | none => 0

theorem sampleAt_cons (x : Nat × Sample) (h : List (Nat × Sample)) (pos : Nat) :
    sampleAt (x :: h) pos = if x.1 = pos then x.2 else sampleAt h pos := by
  by_cases hx : x.1 = pos
  · simp [sampleAt, hx]
  · simp only [sampleAt, List.find?_cons, hx, decide_false, if_false]

theorem sampleAt_of_lt {h : List (Nat × Sample)} {pos : Nat} (hlt : ∀ x ∈ h, pos < x.1) :
    sampleAt h pos = 0 := by
  have hfind : h.find? (fun x => x.1 = pos) = none :=
    List.find?_eq_none.mpr fun x hx => by simpa using (hlt x hx).ne'
  rw [sampleAt, hfind]

/-- A recorded sample is read back, and the other positions keep theirs. -/
theorem sampleAt_recordSample (pos p : Nat) (v : Sample) {h : List (Nat × Sample)}
    (hsorted : (h.map Prod.fst).Pairwise (· < ·)) :
    sampleAt (recordSample pos v h) p = if p = pos then v else sampleAt h p := by
  induction h with
  | nil =>
    unfold recordSample
    split
    · next hv => simp [sampleAt, hv]
    · rw [sampleAt_cons]
      simp only [eq_comm (a := pos)]
  | cons y h ih =>
    obtain ⟨q, w⟩ := y
    simp only [List.map_cons, List.pairwise_cons, List.forall_mem_map] at hsorted
    obtain ⟨hlt, hsorted⟩ := hsorted
    unfold recordSample
    by_cases hq : q < pos
    · rw [if_pos hq, sampleAt_cons, sampleAt_cons, ih hsorted]
      by_cases hp : p = pos
      · simp [hp, hq.ne]
      · simp [hp]
    · rw [if_neg hq]
      have htail : sampleAt (if q = pos then h else (q, w) :: h) pos = 0 := by
        split
        · next heq => exact sampleAt_of_lt fun x hx => heq ▸ hlt x hx
        · next hne =>
          refine sampleAt_of_lt fun x hx => ?_
          obtain rfl | hx := List.mem_cons.mp hx
          · exact lt_of_le_of_ne (not_lt.mp hq) (Ne.symm hne)
          · exact lt_of_le_of_lt (not_lt.mp hq) (hlt x hx)
      have hother (hp : p ≠ pos) :
          sampleAt (if q = pos then h else (q, w) :: h) p = sampleAt ((q, w) :: h) p := by
        split
        · next heq => rw [sampleAt_cons, if_neg (by simpa [heq] using hp.symm)]
        · rfl
      by_cases hp : p = pos
      · subst hp
        by_cases hv : v = 0 <;> simp [hv, htail, sampleAt_cons]
      · by_cases hv : v = 0 <;> simp [hv, hother hp, sampleAt_cons, hp, Ne.symm hp]

/-! ## Arithmetic of the outputs -/

theorem saturate_range (v : Int) :
    (-8388608 : Int) ≤ saturate v ∧ saturate v ≤ (8388607 : Int) :=
  ⟨le_max_left _ _, max_le (by decide) (min_le_left _ _)⟩

theorem saturate_ne_iff (v : Int) : saturate v ≠ v ↔ v < -8388608 ∨ 8388607 < v := by
  have hclip : max (-8388608 : Int) (min 8388607 v) ≠ v ↔ v < -8388608 ∨ 8388607 < v := by omega
  exact hclip

/-- A sum in which the terms left out are 0. -/
theorem sum_map_filter {α : Type} (p : α → Prop) [DecidablePred p] (f g : α → Int) (l : List α)
    (hin : ∀ a ∈ l, p a → f a = g a) (hout : ∀ a ∈ l, ¬ p a → f a = 0) :
    (l.map f).sum = ((l.filter fun a => p a).map g).sum := by
  induction l with
  | nil => rfl
  | cons a l ih =>
    have ih := ih (fun b hb => hin b (List.mem_cons_of_mem _ hb))
      fun b hb => hout b (List.mem_cons_of_mem _ hb)
    by_cases ha : p a
    · simp [ha, ih, hin a List.mem_cons_self ha]
    · simp [ha, ih, hout a List.mem_cons_self ha]

/-! ## The duck operations and the port record -/

/-- The port record apart from the duck profile in force and the one pending. -/
def Port.SameButProfile (p q : Port) : Prop :=
  q = { p with profile := q.profile, pendingProfile := q.pendingProfile }

theorem Port.SameButProfile.trans {p q r : Port} (h : p.SameButProfile q) (k : q.SameButProfile r) :
    p.SameButProfile r := by
  unfold SameButProfile at *
  rw [h] at k
  exact k

section
variable (es : List Entry) (x : DuckPort)

@[simp] theorem duckAttack_port : (duckAttack x).1 = x.1 := by
  unfold duckAttack
  dsimp only
  split <;> rfl

@[simp] theorem duckReassessOpen_port : (duckReassessOpen es x).1 = x.1 := by
  unfold duckReassessOpen
  split
  · exact duckAttack_port _
  · rfl

@[simp] theorem duckAppear_port : (duckAppear x).1 = x.1 := by
  unfold duckAppear
  dsimp only
  split
  · exact duckAttack_port _
  · exact duckAttack_port _
  · rfl
  · rfl
  · rfl

/-- Entry to OPEN takes up the pending profile. -/
theorem duckOpen_port : x.1.SameButProfile (duckOpen es x).1 := by
  unfold duckOpen
  rw [duckReassessOpen_port]
  cases x.1.pendingProfile <;> rfl

theorem duckHoldExpire_port : x.1.SameButProfile (duckHoldExpire es x).1 := by
  unfold duckHoldExpire
  dsimp only
  split
  · exact duckOpen_port es x
  · rfl

theorem duckGone_port : x.1.SameButProfile (duckGone es x).1 := by
  unfold duckGone
  dsimp only
  split
  · split
    · exact duckHoldExpire_port es _
    · rfl
  · split
    · exact duckHoldExpire_port es _
    · rfl
  · rfl
  · rfl
  · rfl

theorem duckReassess_port : x.1.SameButProfile (duckReassess es x).1 := by
  unfold duckReassess
  dsimp only
  split
  · rfl
  · split
    · rw [duckAppear_port]
      rfl
    · exact duckGone_port es x

theorem duckAdvance_port : x.1.SameButProfile (duckAdvance es x).1 := by
  unfold duckAdvance
  dsimp only
  split
  · rfl
  · split <;> rfl
  · rfl
  · rfl
  · split
    · exact duckOpen_port es x
    · rfl

end

/-! ## The clips of a pass (R47) -/

/-- A port record with one more clip counted. -/
def Port.clipped (x : Port) : Port :=
  { x with clipLatch := true, clipCount := addSat 65535 x.clipCount 1 }

/-- From `u` to `t` each of these ports has one clip counted, and CLIP is offered for each whose latch was
clear. -/
structure State.CountsClips (l : List PortNo) (u t : State) : Prop where
  frame : ∃ ports rs tx q,
    t = { u with
      ports := ports, control := { u.control with replies := rs, tx := tx }, reports := q }
  port : ∀ d, t.port d = if d ∈ l then (u.port d).clipped else u.port d
  forms : u.FormsReplies t []
  silent : (∀ d ∈ l, (u.port d).clipLatch = true) → t.control = u.control ∧ t.reports = u.reports
  reports : ∀ d ∈ l, (u.port d).clipLatch = false →
    (∀ c ∈ l, c ≠ d → (u.port c).clipLatch = true) → u.QueuesReport t (.clip d u.time)

namespace State

theorem FormsReplies.refl (s : State) : s.FormsReplies s [] := (List.append_nil _).symm

theorem countClip_counts (u : State) (d : PortNo) : u.CountsClips [d] (u.countClip d) := by
  have hport (p : PortNo) : (u.modPort d Port.clipped).port p =
      if p ∈ [d] then (u.port p).clipped else u.port p := by
    simp only [port_modPort, List.mem_singleton]
    split
    · next heq => rw [heq]
    · rfl
  have hcount : u.countClip d = if (u.port d).clipLatch then u.modPort d Port.clipped
      else (u.modPort d Port.clipped).report (.clip d u.time) := rfl
  rw [hcount]
  by_cases hlatch : (u.port d).clipLatch = true
  · rw [if_pos hlatch]
    refine ⟨⟨_, _, _, _, rfl⟩, hport, FormsReplies.refl u, fun _ => ⟨rfl, rfl⟩, fun c hc hclear => ?_⟩
    rw [List.mem_singleton.mp hc, hlatch] at hclear
    cases hclear
  · rw [if_neg hlatch]
    generalize ht : report _ _ = t
    obtain ⟨hforms, hqueues⟩ := ht ▸ report_offers ..
    obtain ⟨rs, tx, q, rfl⟩ := (ht ▸ report_isBut ..).exists_waiting
    refine ⟨⟨_, rs, tx, q, rfl⟩, hport, hforms,
      fun h => absurd (h d (List.mem_singleton.mpr rfl)) hlatch, fun c hc _ _ => ?_⟩
    rw [List.mem_singleton.mp hc]
    exact hqueues

theorem CountsClips.trans {l m : List PortNo} {s u t : State} (h : s.CountsClips l u)
    (k : u.CountsClips m t) (hdisjoint : ∀ d ∈ l, d ∉ m) : s.CountsClips (l ++ m) t := by
  obtain ⟨ports, rs, tx, q, hu⟩ := h.frame
  have htime : u.time = s.time := by rw [hu]; rfl
  have hlatch {d : PortNo} (hd : d ∈ m) : u.port d = s.port d := by
    rw [h.port, if_neg fun hl => hdisjoint d hl hd]
  refine ⟨?_, fun d => ?_, h.forms.trans k.forms, fun hall => ?_, fun d hd hclear hothers => ?_⟩
  · obtain ⟨ports', rs', tx', q', ht⟩ := k.frame
    exact ⟨ports', rs', tx', q', by rw [ht, hu]⟩
  · simp only [k.port, List.mem_append]
    by_cases hm : d ∈ m
    · rw [if_pos hm, if_pos (.inr hm), hlatch hm]
    · simp only [hm, if_false, or_false, h.port]
  · obtain ⟨hcontrol, hreports⟩ := h.silent fun d hd => hall d (List.mem_append_left _ hd)
    obtain ⟨hcontrol', hreports'⟩ := k.silent fun d hd => by
      rw [hlatch hd]
      exact hall d (List.mem_append_right _ hd)
    exact ⟨hcontrol'.trans hcontrol, hreports'.trans hreports⟩
  · have hl (c : PortNo) (hc : c ∈ l) := hothers c (List.mem_append_left _ hc)
    have hm (c : PortNo) (hc : c ∈ m) := hothers c (List.mem_append_right _ hc)
    obtain hd | hd := List.mem_append.mp hd
    · obtain ⟨hcontrol, hreports⟩ := k.silent fun c hc => by
        rw [hlatch hc]
        exact hm c hc fun heq => hdisjoint d hd (heq ▸ hc)
      simpa only [QueuesReport, unsentReports, hcontrol, hreports] using h.reports d hd hclear hl
    · obtain ⟨hcontrol, hreports⟩ := h.silent fun c hc =>
        hl c hc fun heq => hdisjoint c hc (heq ▸ hd)
      have hqueues := k.reports d hd (by rw [hlatch hd, hclear]) fun c hc hne => by
        rw [hlatch hc]
        exact hm c hc hne
      simpa only [QueuesReport, unsentReports, hcontrol, hreports, htime] using hqueues

theorem foldl_countClip_counts {l : List PortNo} (hnodup : l.Nodup) (u : State) :
    u.CountsClips l (l.foldl countClip u) := by
  induction l generalizing u with
  | nil =>
    exact ⟨⟨_, _, _, _, rfl⟩, fun d => (if_neg List.not_mem_nil).symm, FormsReplies.refl u,
      fun _ => ⟨rfl, rfl⟩, fun d hd => absurd hd List.not_mem_nil⟩
  | cons d l ih =>
    obtain ⟨hd, hnodup⟩ := List.nodup_cons.mp hnodup
    exact (u.countClip_counts d).trans (ih hnodup _) (by simpa using hd)

end State

/-! ## The pass -/

/-- The ports the pass clips, in port order. -/
def State.clippers (s : State) (inputs : Table 64 (BitVec 24)) : List PortNo :=
  allPorts.filter
    ((s.recordSlots (s.conditionedInputs inputs)).clips (s.conditionedInputs inputs))

/-- The outputs put and the slots recorded, before the clips are counted. -/
def State.withOutputs (s : State) (inputs : Table 64 (BitVec 24)) : State :=
  (s.recordSlots (s.conditionedInputs inputs)).putOutputs (s.conditionedInputs inputs)

/-- What follows the clips: the ducks advance, the probe counts the pass, and the period ends. -/
def State.endPass (u : State) (returned : PortNo → Sample) : State :=
  (u.advanceDucks.modProbe fun e => e.pass returned).nextPeriod

theorem exec_mixPass {s : State} (hheld : s.resetHeld = false) (inputs : Table 64 (BitVec 24)) :
    ∃ u, (s.withOutputs inputs).CountsClips (s.clippers inputs) u ∧
      exec (.mixPass inputs) s = .next (u.endPass (s.conditionedInputs inputs).get) := by
  have hexec : exec (.mixPass inputs) s = .next _ := exec_of_event hheld fun _ => rfl
  exact ⟨_, State.foldl_countClip_counts ((List.nodup_finRange 64).filter _) _, hexec⟩

theorem conditionedInputs_get (s : State) (inputs : Table 64 (BitVec 24)) (p : PortNo) :
    (s.conditionedInputs inputs).get p = s.conditionedInput inputs p := by
  rw [State.conditionedInputs, Table.get_tabulate]

/-- A running round counts the pass until its phase has run its length. -/
theorem pass_of_marker {r : ProbeRun} (returned : Sample) (hphase : r.phase = .marker)
    (hpasses : r.passes < r.candidate + 16) :
    r.pass returned =
      { r with
        passes := r.passes + 1
        seen := if r.candidate ≤ r.passes ∧ r.threshold ≤ returned.natAbs then r.seen + 1
          else r.seen } := by
  have hopen : ¬ (r.windowDone || r.gapDone) = true := by
    simp [ProbeRun.windowDone, ProbeRun.gapDone, hphase, hpasses]
  simp only [ProbeRun.pass, if_neg hopen, hphase, beq_self_eq_true, Bool.true_and, Bool.and_eq_true,
    decide_eq_true_eq]

theorem pass_of_gap {r : ProbeRun} (returned : Sample) (hphase : r.phase = .gap)
    (hpasses : r.passes < 4112) : r.pass returned = { r with passes := r.passes + 1 } := by
  have hopen : ¬ (r.windowDone || r.gapDone) = true := by
    simp [ProbeRun.windowDone, ProbeRun.gapDone, hphase, hpasses]
  have hgap : (r.phase == .marker) = false := by rw [hphase]; rfl
  simp only [ProbeRun.pass, if_neg hopen, hgap, Bool.false_and, Bool.false_eq_true, if_false]

theorem pass_of_settling {e : Probe} (returned : PortNo → Sample) (h : e.engine = .settling) :
    e.pass returned = { e with settle := e.settle - 1 } := by
  cases e
  cases h
  rfl

theorem framePhase_succ_eq_zero (phase : Fin 48) : (phase + 1 == 0) = decide (phase.val = 47) := by
  revert phase
  decide

theorem framePhase_succ_val (phase : Fin 48) : (phase + 1).val = (phase.val + 1) % 48 :=
  Fin.val_add phase 1

/-- Settles O32: the period's end by the counters it advances, the rest by what each part of the pass
changes. -/
theorem mixPassAdvancesThePeriod : Obligations.MixPassAdvancesThePeriod := by
  intro inputs s hheld
  obtain ⟨u, hcounts, hexec⟩ := exec_mixPass hheld inputs
  have hforms := hcounts.forms
  obtain ⟨ports, rs, tx, q, rfl⟩ := hcounts.frame
  have hrun' {r : ProbeRun} (hengine : s.probe.engine = .running) (hrun : s.probe.run = some r) :
      (s.probe.pass (s.conditionedInputs inputs).get).run =
        some (r.pass (s.conditionedInput inputs r.returnSource)) := by
    simp only [Probe.pass, hengine, hrun, Option.map_some, conditionedInputs_get]
  refine ⟨_, hexec, hforms, ?_, ?_, fun l => ?_, rfl, rfl, fun r hengine hrun => ⟨fun hphase hp => ?_,
    fun hphase hp => ?_⟩, fun hengine => ?_, rfl⟩
  · change ({ s.timing with
      stationTime := s.timing.stationTime + 1, framePhase := s.timing.framePhase + 1
      boundaryDue := s.timing.boundaryDue || s.timing.framePhase + 1 == 0 } : Timing) = _
    rw [framePhase_succ_eq_zero, BitVec.ofNat_add, BitVec.ofNat_toNat, BitVec.setWidth_eq]
    rfl
  · exact framePhase_succ_val s.timing.framePhase
  · exact Table.get_map _ s.lanes l
  · exact (hrun' hengine hrun).trans (congrArg some (pass_of_marker _ hphase hp))
  · exact (hrun' hengine hrun).trans (congrArg some (pass_of_gap _ hphase hp))
  · exact pass_of_settling _ hengine

/-! ## Inputs and outputs (R22, R44 to R46) -/

section
variable {s : State} {inputs : Table 64 (BitVec 24)} {p : PortNo}

theorem conditionedInput_of_off (h : (s.port p).cls = .unused ∨ (s.port p).isolated = true) :
    s.conditionedInput inputs p = 0 := if_pos h

variable (hcls : (s.port p).cls ≠ .unused) (hisolated : (s.port p).isolated = false)
include hcls hisolated

theorem conditionedInput_of_probed {r : ProbeRun} (hrun : s.probe.run = some r) (hr : r.port = p) :
    s.conditionedInput inputs p = r.marker := by
  have hoff : ¬ ((s.port p).cls = .unused ∨ (s.port p).isolated = true) := by simp [hcls, hisolated]
  simp only [State.conditionedInput, if_neg hoff, hrun, if_pos hr]

theorem conditionedInput_of_not_probed (hrun : ∀ r, s.probe.run = some r → r.port ≠ p) :
    s.conditionedInput inputs p = saturate (roundShift 10 (s.rawSample inputs p * (s.port p).trim)) := by
  have hoff : ¬ ((s.port p).cls = .unused ∨ (s.port p).isolated = true) := by simp [hcls, hisolated]
  unfold State.conditionedInput
  rw [if_neg hoff]
  split
  · next r heq => exact if_neg (hrun r heq)
  · rfl

end

/-- The entries that are not LIVE add nothing. -/
theorem sum_entryTerm (s : State) (x : Table 64 Sample) (d : PortNo) :
    ((s.into d).map (s.entryTerm x d)).sum =
      (((s.into d).filter fun e => e.state = .live).map fun e =>
        (x.get e.source * e.level * s.entryFactor d e + 524288) / 1048576).sum :=
  sum_map_filter (fun e : Entry => e.state = .live) _ _ _ (fun _ _ hlive => if_pos hlive)
    fun _ _ hlive => if_neg hlive

/-- Settles O33: the conditioned input by its cases, the output by the state the slots are recorded in. -/
theorem outputsFollowTheMixRules : Obligations.OutputsFollowTheMixRules := by
  intro inputs s hheld x factor
  refine ⟨fun p => ⟨conditionedInput_of_off, fun hcls hisolated =>
    ⟨fun r hrun hr => conditionedInput_of_probed hcls hisolated hrun hr,
      conditionedInput_of_not_probed hcls hisolated⟩⟩, ?_⟩
  obtain ⟨u, hcounts, hexec⟩ := exec_mixPass hheld inputs
  obtain ⟨ports, rs, tx, q, rfl⟩ := hcounts.frame
  refine ⟨_, hexec, fun d => ?_⟩
  have hout : (s.withOutputs inputs).mix.outputs.get d =
      if (s.port d).cls = .unused ∨ (s.port d).isolated = true then 0
      else saturate
        ((s.recordSlots (s.conditionedInputs inputs)).scaledMix (s.conditionedInputs inputs) d) :=
    Table.get_tabulate _ d
  change -8388608 ≤ (s.withOutputs inputs).mix.outputs.get d ∧
    (s.withOutputs inputs).mix.outputs.get d ≤ 8388607 ∧
    (_ → (s.withOutputs inputs).mix.outputs.get d = 0) ∧
    (_ → _ → (s.withOutputs inputs).mix.outputs.get d = _)
  rw [hout]
  by_cases hoff : (s.port d).cls = .unused ∨ (s.port d).isolated = true
  · rw [if_pos hoff]
    exact ⟨by decide, by decide, fun _ => rfl, fun hcls hisolated =>
      absurd hoff (by simp [hcls, hisolated])⟩
  · rw [if_neg hoff]
    obtain ⟨hlo, hhi⟩ := saturate_range
      ((s.recordSlots (s.conditionedInputs inputs)).scaledMix (s.conditionedInputs inputs) d)
    refine ⟨hlo, hhi, fun h => absurd h hoff, fun _ _ => ?_⟩
    rw [State.scaledMix, State.accumulator, sum_entryTerm]
    simp only [conditionedInputs_get]
    rfl

/-! ## Clips (R47) -/

theorem mem_clippers (s : State) (inputs : Table 64 (BitVec 24)) (d : PortNo) :
    d ∈ s.clippers inputs ↔
      (s.port d).cls ≠ .unused ∧ (s.port d).isolated = false ∧
        ((s.recordSlots (s.conditionedInputs inputs)).scaledMix (s.conditionedInputs inputs) d <
            -8388608 ∨
          8388607 <
            (s.recordSlots (s.conditionedInputs inputs)).scaledMix (s.conditionedInputs inputs) d) := by
  rw [← saturate_ne_iff, State.clippers, List.mem_filter, State.clips, Bool.and_eq_true,
    decide_eq_true_eq, Bool.not_eq_true', Bool.or_eq_false_iff, decide_eq_false_iff_not, and_assoc]
  exact and_iff_right (List.mem_finRange d)

/-- What ends the pass leaves a port record but for its duck profiles. -/
theorem endPass_port (u : State) (returned : PortNo → Sample) (d : PortNo) :
    (u.port d).SameButProfile ((u.endPass returned).port d) := by
  have hget : (u.endPass returned).port d =
      (if (u.port d).cls = .unused then (u.port d, u.duck d)
        else duckAdvance (u.into d) (u.port d, u.duck d)).1 := Table.get_tabulate _ d
  rw [hget]
  split
  · rfl
  · exact duckAdvance_port (u.into d) (u.port d, u.duck d)

/-- Settles O34: the clips by the ports counted; the duck units change the profiles alone. -/
theorem clipsAreCountedOncePerPass : Obligations.ClipsAreCountedOncePerPass := by
  intro inputs s hheld x mix clips
  obtain ⟨u, hcounts, hexec⟩ := exec_mixPass hheld inputs
  have hmem := mem_clippers s inputs
  have hend := endPass_port u (s.conditionedInputs inputs).get
  have hcount := hcounts.port
  refine ⟨_, hexec, fun d hd => ?_, fun d hd => ?_, fun d => ?_, fun hall => ?_,
    fun d hd hclear hothers => ?_⟩
  · rw [hend d, hcount d, if_pos ((hmem d).mpr hd)]
    exact ⟨rfl, rfl⟩
  · rw [hend d, hcount d, if_neg (mt (hmem d).mp hd)]
    exact ⟨rfl, rfl⟩
  · rw [hend d, hcount d]
    split <;> rfl
  · obtain ⟨hcontrol, hreports⟩ := hcounts.silent fun d hd => hall d ((hmem d).mp hd)
    refine ⟨?_, congrArg ReportQueue.dropped hreports⟩
    change u.unsentReports = _
    rw [State.unsentReports, hcontrol, hreports]
    rfl
  · exact hcounts.reports d ((hmem d).mpr hd) hclear fun c hc hne => hothers c hne ((hmem c).mp hc)

/-! ## Cancel (R68 to R70) -/

theorem recordSlots_slot (s : State) (x : Table 64 Sample) (k : SlotNo) :
    (s.recordSlots x).slot k =
      match (s.slot k).owner with
      | some p =>
        { s.slot k with
          history := recordSample (slotPosition s.time) (x.get p) (s.slot k).history }
      | none => s.slot k := Table.get_map _ s.cancel k

section
variable {s : State} {p : PortNo} {c : CancelSection} (hc : (s.port p).cancel = some c)
include hc

theorem cancelTerm_of_inactive (h : c.lockedDelay = none ∨ s.underProbe p = true) :
    s.cancelTerm p = 0 := by
  unfold State.cancelTerm
  rw [hc]
  dsimp only
  split
  · next delay heq => exact if_pos (h.resolve_left (by simp [heq]))
  · rfl

theorem cancelTerm_of_locked {delay : Nat} (hdelay : c.lockedDelay = some delay)
    (hprobe : s.underProbe p = false) :
    s.cancelTerm p =
      roundShift 10
        ((s.slot c.slot).read (slotPosition (s.time - BitVec.ofNat 32 delay)) * c.level) := by
  simp only [State.cancelTerm, hc, hdelay, hprobe, Bool.false_eq_true, if_false]

end

/-- Settles O36: each slot by its owner, the history read where it was recorded. -/
theorem cancelSlotsRecordThePass : Obligations.CancelSlotsRecordThePass := by
  intro inputs s hheld hsound
  refine ⟨?_, fun p => ⟨fun hnone => ?_, fun c hc => ⟨cancelTerm_of_inactive hc,
    fun delay hdelay hprobe => cancelTerm_of_locked hc hdelay hprobe⟩⟩⟩
  · obtain ⟨u, hcounts, hexec⟩ := exec_mixPass hheld inputs
    obtain ⟨ports, rs, tx, q, rfl⟩ := hcounts.frame
    refine ⟨_, hexec, fun k => ?_⟩
    have hslot := recordSlots_slot s (s.conditionedInputs inputs) k
    change (((s.recordSlots (s.conditionedInputs inputs)).slot k).owner = _) ∧
      (_ → (s.recordSlots (s.conditionedInputs inputs)).slot k = _) ∧
      ∀ p, _ → ((s.recordSlots (s.conditionedInputs inputs)).slot k).read _ = _ ∧
        ∀ pos, _ → ((s.recordSlots (s.conditionedInputs inputs)).slot k).read pos = _
    rw [hslot]
    cases howner : (s.slot k).owner with
    | none => exact ⟨howner, fun _ => rfl, fun p hp => nomatch hp⟩
    | some p =>
      obtain ⟨hsorted, -⟩ := hsound k
      have hread (pos : Nat) :=
        sampleAt_recordSample (slotPosition s.time) pos ((s.conditionedInputs inputs).get p) hsorted
      refine ⟨howner, fun h => (nomatch h), fun q hq => ⟨?_, fun pos hpos => ?_⟩⟩
      · cases hq
        rw [← conditionedInputs_get]
        exact (hread _).trans (if_pos rfl)
      · exact (hread pos).trans (if_neg hpos)
  · rw [State.cancelTerm, hnone]

end Sys2Proof.Machine
end

section
/-! PROOFS. PORT-SET CLASS (O15): what a port leaves and enters, and the return sources that name it. -/

namespace Sys2Proof.Machine

namespace State

/-! ## Probes ended and requests withdrawn -/

/-- From `s` to `t` probes are ended or requests for one withdrawn: the probe, the histories of the cancel
slots and what waits to be sent may differ, and no reply is formed. -/
structure EndsProbes (s t : State) : Prop where
  frame : ∃ cancel probe rs tx q,
    t = { s with
      cancel := cancel, probe := probe
      control := { s.control with replies := rs, tx := tx }, reports := q }
  owner : ∀ k, (t.slot k).owner = (s.slot k).owner
  forms : s.FormsReplies t []

theorem EndsProbes.refl (s : State) : s.EndsProbes s :=
  ⟨⟨_, _, _, _, _, rfl⟩, fun _ => rfl, FormsReplies.refl s⟩

theorem EndsProbes.trans {s u t : State} (h : s.EndsProbes u) (k : u.EndsProbes t) :
    s.EndsProbes t := by
  refine ⟨?_, fun i => (k.owner i).trans (h.owner i), h.forms.trans k.forms⟩
  obtain ⟨cancel, probe, rs, tx, q, rfl⟩ := h.frame
  obtain ⟨cancel', probe', rs', tx', q', rfl⟩ := k.frame
  exact ⟨cancel', probe', rs', tx', q', rfl⟩

theorem EndsProbes.port {s t : State} (h : s.EndsProbes t) (p : PortNo) : t.port p = s.port p := by
  obtain ⟨cancel, probe, rs, tx, q, rfl⟩ := h.frame
  rfl

theorem zeroFilled_owner (s : State) (p : PortNo) (k : SlotNo) :
    ((s.zeroFilled p).get k).owner = (s.slot k).owner := by
  cases hc : (s.port p).cancel with
  | none => simp only [zeroFilled, zeroFillSlot, hc]; rfl
  | some c =>
    rw [zeroFilled_get hc]
    split <;> rfl

theorem endProbe_ends_probes (s : State) {result : ProbeResult} (hresult : result ≠ .locked) :
    s.EndsProbes (s.endProbe result) := by
  cases hrun : s.probe.run with
  | none =>
    rw [endProbe, hrun]
    exact EndsProbes.refl s
  | some r =>
    rw [endProbe_of_ne_locked hrun hresult]
    generalize ht : report _ _ = t
    obtain ⟨hforms, -⟩ := ht ▸ report_offers ..
    obtain ⟨rs, tx, q, rfl⟩ := (ht ▸ report_isBut ..).exists_waiting
    exact ⟨⟨_, _, rs, tx, q, rfl⟩, s.zeroFilled_owner r.port, hforms⟩

theorem abortProbe_ends_probes (s : State) (p : PortNo) (asReturn : Bool) :
    s.EndsProbes (s.abortProbe p asReturn) := by
  unfold abortProbe
  split
  · split
    · exact s.endProbe_ends_probes (by decide)
    · exact EndsProbes.refl s
  · exact EndsProbes.refl s

theorem unqueueProbe_ends_probes (s : State) (p : PortNo) : s.EndsProbes (s.unqueueProbe p) := by
  by_cases h : p ∈ s.probe.queue
  · rw [unqueueProbe_of_queued h]
    generalize ht : report _ _ = t
    obtain ⟨hforms, -⟩ := ht ▸ report_offers ..
    obtain ⟨rs, tx, q, rfl⟩ := (ht ▸ report_isBut ..).exists_waiting
    exact ⟨⟨_, _, rs, tx, q, rfl⟩, fun _ => rfl, hforms⟩
  · rw [unqueueProbe_of_not h]
    exact EndsProbes.refl s

/-! ## Return sources (R21) -/

end State

/-- A port record whose return source is absent where it named the given port. -/
def Port.withoutReturn (x : Port) (gone : PortNo) : Port :=
  { x with cancel := x.cancel.map fun c =>
      if c.returnSource = some gone then { c with returnSource := none } else c }

theorem withoutReturn_of_ne {x : Port} {gone : PortNo}
    (h : x.cancel.bind CancelSection.returnSource ≠ some gone) : x.withoutReturn gone = x := by
  unfold Port.withoutReturn
  cases hc : x.cancel with
  | none => rw [Option.map_none, ← hc]
  | some c =>
    rw [hc, Option.bind_some] at h
    rw [Option.map_some, if_neg h, ← hc]

theorem withoutReturn_of_eq {x : Port} {gone : PortNo}
    (h : x.cancel.bind CancelSection.returnSource = some gone) :
    x.withoutReturn gone =
      { x with cancel := x.cancel.map fun c => { c with returnSource := none } } := by
  unfold Port.withoutReturn
  cases hc : x.cancel with
  | none => rfl
  | some c =>
    rw [hc, Option.bind_some] at h
    rw [Option.map_some, Option.map_some, if_pos h]

theorem withoutReturn_twice (x : Port) (gone : PortNo) :
    (x.withoutReturn gone).withoutReturn gone = x.withoutReturn gone := by
  refine withoutReturn_of_ne ?_
  unfold Port.withoutReturn
  cases x.cancel with
  | none => simp
  | some c =>
    by_cases h : c.returnSource = some gone
    · simp [h]
    · simp [h]

/-- From `s` to `t` the ports of a list, but for `gone` itself, have lost `gone` as their return source. -/
structure State.LosesReturns (gone : PortNo) (l : List PortNo) (s t : State) : Prop where
  frame : ∃ ports cancel probe rs tx q,
    t = { s with
      ports := ports, cancel := cancel, probe := probe
      control := { s.control with replies := rs, tx := tx }, reports := q }
  port : ∀ q, t.port q =
    if q ∈ l ∧ q ≠ gone then (s.port q).withoutReturn gone else s.port q
  owner : ∀ k, (t.slot k).owner = (s.slot k).owner
  forms : s.FormsReplies t []

namespace State

theorem loseReturn_loses (s : State) (gone p : PortNo) :
    s.LosesReturns gone [p] (s.loseReturn gone p) := by
  have hport (q : PortNo) : (s.modPort p (·.withoutReturn gone)).port q =
      if q ∈ [p] then (s.port q).withoutReturn gone else s.port q := by
    simp only [port_modPort, List.mem_singleton]
    split
    · next heq => rw [heq]
    · rfl
  unfold loseReturn
  split
  · next h =>
    obtain ⟨hp, hreturn⟩ := h
    have hwithout : (s.modPort p fun x =>
        { x with cancel := x.cancel.map fun c => { c with returnSource := none } }) =
        s.modPort p (·.withoutReturn gone) := by
      simp only [modPort, withoutReturn_of_eq hreturn]
    rw [hwithout]
    have hends := (abortProbe_ends_probes (s.modPort p (·.withoutReturn gone)) p false).trans
      (unqueueProbe_ends_probes _ p)
    obtain ⟨cancel, probe, rs, tx, q, ht⟩ := hends.frame
    refine ⟨⟨_, _, _, _, _, _, ht⟩, fun q => ?_, hends.owner, hends.forms⟩
    rw [hends.port, hport]
    by_cases hq : q ∈ [p]
    · have hne : q ≠ gone := List.mem_singleton.mp hq ▸ hp
      rw [if_pos hq, if_pos ⟨hq, hne⟩]
    · rw [if_neg hq, if_neg fun h => hq h.1]
  · next h =>
    refine ⟨⟨_, _, _, _, _, _, rfl⟩, fun q => ?_, fun _ => rfl, FormsReplies.refl s⟩
    split
    · next hq =>
      obtain ⟨hq, hne⟩ := hq
      cases List.mem_singleton.mp hq
      exact (withoutReturn_of_ne fun hreturn => h ⟨hne, hreturn⟩).symm
    · rfl

theorem foldl_loseReturn_loses (gone : PortNo) (l : List PortNo) (s : State) :
    s.LosesReturns gone l (l.foldl (fun s q => s.loseReturn gone q) s) := by
  induction l generalizing s with
  | nil =>
    exact ⟨⟨_, _, _, _, _, _, rfl⟩, fun q => (if_neg fun h => List.not_mem_nil h.1).symm,
      fun _ => rfl, FormsReplies.refl s⟩
  | cons p l ih =>
    have hfirst := s.loseReturn_loses gone p
    have hrest := ih (s.loseReturn gone p)
    refine ⟨?_, fun q => (hrest.port q).trans ?_, fun k => (hrest.owner k).trans (hfirst.owner k),
      hfirst.forms.trans hrest.forms⟩
    · obtain ⟨ports, cancel, probe, rs, tx, q, hu⟩ := hfirst.frame
      obtain ⟨ports', cancel', probe', rs', tx', q', ht⟩ := hrest.frame
      exact ⟨ports', cancel', probe', rs', tx', q', by rw [List.foldl_cons, ht, hu]⟩
    · simp only [hfirst.port, List.mem_cons]
      by_cases hne : q ≠ gone
      · by_cases hp : q = p
        · simp [hp, hp ▸ hne, withoutReturn_twice]
        · simp [hp]
      · simp only [hne, and_false, if_false]

end State

/-! ## Leaving a class and entering one (R16) -/

/-- What a port takes with it on a change of class, apart from the return sources that name it. -/
structure State.ClassChanged (p : PortNo) (c : PortClass) (s t : State) : Prop where
  frame : ∃ ports ducks buffers cancel,
    t = { s with ports := ports, ducks := ducks, buffers := buffers, cancel := cancel }
  cls : (t.port p).cls = c
  panel : (t.port p).panel = none
  remote : c = .remote → ∃ b, s.freeBuffer? = some b ∧
    (t.port p).binding = some { buffer := b } ∧ t.buffer b = { owner := some p }
  binding : c ≠ .remote → (t.port p).binding = none
  unused : c = .unused → t.port p = {} ∧ t.duck p = {} ∧
    ∀ x, (s.port p).cancel = some x → (t.slot x.slot).owner = none
  duck : ∀ q, q ≠ p → t.duck q = s.duck q
  used : c ≠ .unused → t.ducks = s.ducks ∧ t.port p =
    { s.port p with cls := c, panel := none, binding := (t.port p).binding }
  buffer : ∀ b, (s.port p).cls = .remote → (s.port p).binding = some b → t.buffer b.buffer = {}
  others : ∀ q, q ≠ p → t.port q = s.port q

namespace State

/-- The buffers once a port has left its class: its own Path Buffer is free again. -/
def buffersLeft (s : State) (p : PortNo) : Table 16 PathBuf := (s.leaveClass p).buffers

theorem leaveClass_eq (s : State) (p : PortNo) :
    s.leaveClass p =
      { s with
        buffers := s.buffersLeft p
        ports := s.ports.set p { s.port p with panel := none, binding := none } } := by
  unfold buffersLeft leaveClass
  split <;> rfl

theorem buffersLeft_of_ne {s : State} {p : PortNo} (h : (s.port p).cls ≠ .remote) :
    s.buffersLeft p = s.buffers := by
  unfold buffersLeft leaveClass
  split
  · next heq _ => exact absurd heq h
  · rfl

theorem buffersLeft_get {s : State} {p : PortNo} {b : LaneBinding} (hcls : (s.port p).cls = .remote)
    (hbinding : (s.port p).binding = some b) : (s.buffersLeft p).get b.buffer = {} := by
  have h := s.buffer_modBuffer b.buffer b.buffer fun _ => {}
  rw [if_pos rfl] at h
  simp only [buffersLeft, leaveClass, hcls, hbinding, modPort_buffers]
  exact h

/-- The cancel slots once a port has lost its cancel section. -/
def slotsFreed (s : State) (p : PortNo) : Table 24 CancelSlot := (s.removeCancel p).cancel

theorem slotsFreed_owner {s : State} {p : PortNo} {c : CancelSection} (h : (s.port p).cancel = some c) :
    ((s.slotsFreed p).get c.slot).owner = none := by
  have hslot := s.slot_modSlot c.slot c.slot fun k => { k with owner := none }
  rw [if_pos rfl] at hslot
  simp only [slotsFreed, removeCancel, h, modPort_cancel]
  exact congrArg CancelSlot.owner hslot

theorem resetPort_eq (s : State) (p : PortNo) :
    (s.removeCancel p).modPort p (fun _ => {}) =
      { s with ports := s.ports.set p {}, cancel := s.slotsFreed p } := by
  unfold slotsFreed removeCancel
  split
  · simp only [modPort, modSlot, Table.set_set]
  · rfl

section
variable {s : State} {p : PortNo}

theorem changed_of_buffer {b : BufNo} (hcls : (s.port p).cls ≠ .remote) (hb : s.freeBuffer? = some b) :
    ClassChanged p .remote s
      { s with
        buffers := s.buffers.set b { owner := some p }
        ports := s.ports.set p
          { s.port p with cls := .remote, panel := none, binding := some { buffer := b } } } := by
  constructor
  case frame => exact ⟨_, _, _, _, rfl⟩
  case remote =>
    exact fun _ => ⟨b, hb, by rw [port, Table.get_set_same], Table.get_set_same _ _ _⟩
  case binding => exact fun h => absurd rfl h
  case unused => exact fun h => nomatch h
  case duck => exact fun _ _ => rfl
  case used => exact fun _ => ⟨rfl, by simp only [port, Table.get_set_same]⟩
  case buffer => exact fun _ h => absurd h hcls
  case others => exact fun q hq => Table.get_set_ne _ _ hq
  all_goals simp only [port, Table.get_set_same]

theorem changed_of_plain {c : PortClass} (hremote : c ≠ .remote) (hunused : c ≠ .unused) :
    ClassChanged p c s
      { s with
        buffers := s.buffersLeft p
        ports := s.ports.set p { s.port p with cls := c, panel := none, binding := none } } := by
  constructor
  case frame => exact ⟨_, _, _, _, rfl⟩
  case remote => exact fun h => absurd h hremote
  case binding => exact fun _ => by simp only [port, Table.get_set_same]
  case unused => exact fun h => absurd h hunused
  case duck => exact fun _ _ => rfl
  case used => exact fun _ => ⟨rfl, by simp only [port, Table.get_set_same]⟩
  case buffer => exact fun b hcls hbinding => buffersLeft_get hcls hbinding
  case others => exact fun q hq => Table.get_set_ne _ _ hq
  all_goals simp only [port, Table.get_set_same]

theorem changed_of_unused :
    ClassChanged p .unused s
      { s with
        buffers := s.buffersLeft p, cancel := s.slotsFreed p
        ports := s.ports.set p {}, ducks := s.ducks.set p {} } := by
  constructor
  case frame => exact ⟨_, _, _, _, rfl⟩
  case remote => exact fun h => nomatch h
  case binding => exact fun _ => by simp only [port, Table.get_set_same]
  case unused =>
    exact fun _ => ⟨Table.get_set_same _ _ _, Table.get_set_same _ _ _, fun x hx => slotsFreed_owner hx⟩
  case duck => exact fun q hq => Table.get_set_ne _ _ hq
  case used => exact fun h => absurd rfl h
  case buffer => exact fun b hcls hbinding => buffersLeft_get hcls hbinding
  case others => exact fun q hq => Table.get_set_ne _ _ hq
  all_goals simp only [port, Table.get_set_same]

/-- A port that leaves its class and enters another, a Path Buffer being free if it is REMOTE. -/
theorem leave_enter_changes {c : PortClass} (hne : c ≠ (s.port p).cls)
    (hfree : c = .remote → ∃ b, s.freeBuffer? = some b) :
    ClassChanged p c s ((s.leaveClass p).enterClass p c) := by
  have hplain : (s.leaveClass p).modPort p (fun x => { x with cls := c }) =
      { s with
        buffers := s.buffersLeft p
        ports := s.ports.set p { s.port p with cls := c, panel := none, binding := none } } := by
    simp only [leaveClass_eq, modPort, port, Table.set_set, Table.get_set_same]
  match c with
  | .remote =>
    obtain ⟨b, hb⟩ := hfree rfl
    have hbuffers := buffersLeft_of_ne hne.symm
    have hfound : (s.leaveClass p).freeBuffer? = some b := by
      rw [← hb, leaveClass_eq]
      simp only [freeBuffer?, buffer, hbuffers]
    have henter : (s.leaveClass p).enterClass p .remote =
        { s with
          buffers := s.buffers.set b { owner := some p }
          ports := s.ports.set p
            { s.port p with cls := .remote, panel := none, binding := some { buffer := b } } } := by
      rw [enterClass, hfound]
      simp only [leaveClass_eq, hbuffers, modPort, modBuffer, port, Table.set_set,
        Table.get_set_same]
    rw [henter]
    exact changed_of_buffer hne.symm hb
  | .unused =>
    have henter : (s.leaveClass p).enterClass p .unused =
        { s with
          buffers := s.buffersLeft p, cancel := s.slotsFreed p
          ports := s.ports.set p {}, ducks := s.ducks.set p {} } := by
      have hslots : (s.leaveClass p).slotsFreed p = s.slotsFreed p := by
        rw [leaveClass_eq]
        unfold slotsFreed removeCancel
        simp only [port, Table.get_set_same]
        split <;> rfl
      rw [enterClass, resetPort_eq, hslots, leaveClass_eq]
      simp only [Table.set_set]
    rw [henter]
    exact changed_of_unused
  | .panel | .earpiece | .feed =>
    exact (congrArg (ClassChanged p _ s) hplain).mpr (changed_of_plain (by decide) (by decide))

end

end State

namespace State

/-- The port in use, by the four cases of R15. -/
theorem portInUse_iff (s : State) (p : PortNo) :
    s.portInUse p = true ↔
      (∃ d, ∃ e ∈ s.into d, e.source = p ∨ d = p) ∨
      (∃ t ∈ s.arbiter.talks, t.talkingPort = p ∨ p ∈ t.targets) ∨
      p ∈ s.probe.queue ∨ (∃ r, s.probe.run = some r ∧ r.port = p) ∨ (s.port p).boundLanes ≠ [] := by
  rw [← underProbe_iff]
  simp [portInUse, allPorts, or_assoc]

theorem freeBuffer?_eq_none {s : State} : s.freeBuffer? = none ↔ ∀ b, (s.buffer b).owner ≠ none := by
  simp [freeBuffer?, allBuffers]

/-- The first hit in a rising list is the least one. -/
theorem find?_le_of_pairwise {n : Nat} {l : List (Fin n)} {f : Fin n → Bool} {b c : Fin n}
    (hsorted : l.Pairwise (· < ·)) (h : l.find? f = some b) (hmem : c ∈ l) (hc : f c = true) : b ≤ c := by
  induction l with
  | nil => cases hmem
  | cons a l ih =>
    obtain ⟨hlt, hsorted⟩ := List.pairwise_cons.mp hsorted
    by_cases ha : f a = true
    · rw [List.find?_cons_of_pos ha] at h
      cases h
      obtain rfl | hmem := List.mem_cons.mp hmem
      · exact le_rfl
      · exact (hlt c hmem).le
    · rw [List.find?_cons_of_neg ha] at h
      obtain rfl | hmem := List.mem_cons.mp hmem
      · exact absurd hc ha
      · exact ih hsorted h hmem

theorem freeBuffer?_eq_some {s : State} {b : BufNo} (h : s.freeBuffer? = some b) :
    (s.buffer b).owner = none ∧ ∀ c, (s.buffer c).owner = none → b ≤ c := by
  have hnone := List.find?_some (p := fun b => (s.buffer b).owner.isNone) h
  refine ⟨Option.isNone_iff_eq_none.mp hnone, fun c hc => ?_⟩
  exact find?_le_of_pairwise (List.sortedLT_finRange 16).pairwise h (List.mem_finRange c)
    (Option.isNone_iff_eq_none.mpr hc)

/-- A change of class: the port's own sections, then the ports that had it as their return source. -/
theorem changeClass_changes {s : State} {p : PortNo} {c : PortClass} (hne : c ≠ (s.port p).cls)
    (hfree : c = .remote → ∃ b, s.freeBuffer? = some b) :
    ∃ u l, s.ClassChanged p c u ∧ (∀ q, q ∈ l ↔ (s.port p).cls = .feed) ∧
      LosesReturns p l u (s.changeClass p c) := by
  unfold changeClass
  split
  · next hfeed =>
    exact ⟨_, allPorts, leave_enter_changes hne hfree, fun q => by simp [allPorts, hfeed],
      foldl_loseReturn_loses p allPorts _⟩
  · next hfeed =>
    exact ⟨_, [], leave_enter_changes hne hfree, fun q => by simp [hfeed],
      foldl_loseReturn_loses p [] _⟩

end State

section
variable {s : State} (htake : s.takesCommand = true) (tag : Byte) {port cls : Byte}
include htake

theorem exec_portSetClass_of_refused (hbad : 64 ≤ port.toNat ∨ 5 ≤ cls.toNat) :
    exec (.portSetClass tag port cls) s = .next (s.reply tag Kind.portSet .badArg) := by
  have hexec : exec (.portSetClass tag port cls) s = .next _ := exec_of_command htake fun _ => rfl
  rw [hexec]
  obtain hport | hcls := hbad
  · rw [number?_eq_none hport]
    rfl
  · have hnone : portClass? cls = none := code?_eq_none hcls
    rw [hnone]
    split
    · next heq => cases heq
    · rfl

theorem exec_portSetClass_of_port {p : PortNo} {c : PortClass} (hport : port.toNat = p.val)
    (hcls : portClass? cls = some c) :
    exec (.portSetClass tag port cls) s =
      .next (if c = (s.port p).cls then s.reply tag Kind.portSet .ok
        else if s.portInUse p = true then s.reply tag Kind.portSet .inUse
        else if c = .remote ∧ s.freeBuffer? = none then s.reply tag Kind.portSet .noRoom
        else (s.reply tag Kind.portSet .ok).changeClass p c) := by
  have hexec : exec (.portSetClass tag port cls) s = .next _ := exec_of_command htake fun _ => rfl
  rw [hexec, number?_eq_some hport, hcls]
  rfl

end

/-- Settles O15: the refusals in their order; then the port's own sections, and the ports that listened to
it. -/
theorem classChangeRebuildsTheSections : Obligations.ClassChangeRebuildsTheSections := by
  refine ⟨State.portInUse_iff, fun tag port cls s htake => ⟨fun hbad => ?_, fun p c hport hcls => ?_⟩⟩
  · exact completes_of_reply (exec_portSetClass_of_refused htake tag hbad) rfl rfl
  have hexec := exec_portSetClass_of_port htake tag hport hcls
  refine ⟨fun hsame => ?_, fun hne huse => ?_, fun hne huse hremote hfull => ?_,
    fun hne huse hfree => ?_⟩
  · rw [if_pos hsame] at hexec
    exact completes_of_reply hexec rfl rfl
  · rw [if_neg hne, if_pos huse] at hexec
    exact completes_of_reply hexec rfl rfl
  · rw [if_neg hne, if_neg (by simp [huse]), if_pos ⟨hremote, State.freeBuffer?_eq_none.mpr hfull⟩]
      at hexec
    exact completes_of_reply hexec rfl rfl
  · have hroom (h : c = .remote) : ∃ b, s.freeBuffer? = some b := by
      obtain ⟨b, hb⟩ := hfree h
      exact Option.ne_none_iff_exists'.mp fun hnone => State.freeBuffer?_eq_none.mp hnone b hb
    rw [if_neg hne, if_neg (by simp [huse]), if_neg fun ⟨h, hnone⟩ => by
      obtain ⟨b, hb⟩ := hroom h
      simp [hnone] at hb] at hexec
    generalize hu : State.reply _ _ _ _ _ = u at hexec
    obtain ⟨hforms, -⟩ := hu ▸ State.reply_answers ..
    obtain ⟨rs, tx, q, rfl⟩ := (hu ▸ State.reply_isBut ..).exists_waiting
    obtain ⟨v, l, hchanged, hlisteners, hloses⟩ := State.changeClass_changes
      (s := { s with control := { s.control with replies := rs, tx := tx }, reports := q }) hne hroom
    generalize State.changeClass _ _ _ = t at hexec hloses
    have hformsLost := hloses.forms
    obtain ⟨ports, ducks, buffers, cancel, rfl⟩ := hchanged.frame
    have hown : t.port p = _ := (hloses.port p).trans (if_neg fun h => h.2 rfl)
    have howner := hloses.owner
    have hothers := hloses.port
    obtain ⟨ports', cancel', probe', rs', tx', q', rfl⟩ := hloses.frame
    refine ⟨_, hexec, hforms.trans hformsLost, hown ▸ hchanged.cls, hown ▸ hchanged.panel,
      fun hc => ?_, fun hc => hown ▸ hchanged.binding hc, fun hc => ?_, hchanged.duck, fun hc => ?_,
      hchanged.buffer, fun p' hp' => ?_, rfl⟩
    · obtain ⟨b, hb, hbinding, hbuffer⟩ := hchanged.remote hc
      obtain ⟨hnone, hleast⟩ := State.freeBuffer?_eq_some hb
      exact ⟨b, hnone, hleast, hown ▸ hbinding, hbuffer⟩
    · obtain ⟨hport, hduck, hslot⟩ := hchanged.unused hc
      exact ⟨hown.trans hport, hduck, fun x hx => (howner _).trans (hslot x hx)⟩
    · obtain ⟨hducks, hport⟩ := hchanged.used hc
      refine ⟨hducks, ?_⟩
      rw [hown]
      exact hport
    · rw [hothers p', hchanged.others p' hp']
      by_cases hfeed : (s.port p).cls = .feed
      · simp only [hfeed, if_true]
        exact if_pos ⟨(hlisteners p').mpr hfeed, hp'⟩
      · simp only [hfeed, if_false]
        exact if_neg fun h => hfeed ((hlisteners p').mp h.1)

end Sys2Proof.Machine
end

section
/-! PROOFS. What a change of entries alters (R36 to R39): the relation in which the operations of the Table
Writer stand, and the entries a port's re-statement decides (O17, O55). -/

namespace Sys2Proof.Machine

/-! ## Records kept but for one field -/

/-- The lane apart from the ON-AIR status it was last told. -/
def Lane.SameButOnAir (x y : Lane) : Prop := y = { x with onAir := y.onAir }

theorem Lane.SameButOnAir.trans {x y z : Lane} (h : x.SameButOnAir y) (k : y.SameButOnAir z) :
    x.SameButOnAir z := by
  unfold SameButOnAir at *
  rw [h] at k
  exact k

theorem Lane.SameButOnAir.state {x y : Lane} (h : x.SameButOnAir y) : y.state = x.state := by rw [h]

theorem Lane.SameButOnAir.boundPort {x y : Lane} (h : x.SameButOnAir y) :
    y.boundPort = x.boundPort := by rw [h]

section
variable {p q : Port} (h : p.SameButProfile q)
include h

theorem Port.SameButProfile.cls : q.cls = p.cls := by rw [h]

theorem Port.SameButProfile.isolated : q.isolated = p.isolated := by rw [h]

theorem Port.SameButProfile.binding : q.binding = p.binding := by rw [h]

theorem Port.SameButProfile.boundLanes : q.boundLanes = p.boundLanes := by
  rw [Port.boundLanes, Port.boundLanes, h.binding]

end

namespace State

/-! ## What a change of entries alters -/

/-- From `s` to `t` the claims of every entry stay, the port records but for the duck profiles, the lanes
outside `l` but for ON-AIR, and everything that follows no change of an entry or of a lane state. -/
structure Alters (l : LaneNo → Prop) (s t : State) : Prop where
  frame : ∃ ports xp ducks arbiter lanes buffers units,
    t = { s with
      ports := ports, xp := xp, ducks := ducks, arbiter := arbiter, lanes := lanes
      buffers := buffers, units := units }
  port : ∀ p, (s.port p).SameButProfile (t.port p)
  lane : ∀ k, ¬ l k → (s.lane k).SameButOnAir (t.lane k)
  contents : ∀ d, (t.into d).map Entry.contents = (s.into d).map Entry.contents

/-- As `Alters`, and the Path Buffers and the units stay too. -/
structure Informs (l : LaneNo → Prop) (s t : State) : Prop extends Alters l s t where
  buffers : t.buffers = s.buffers
  units : t.units = s.units

/-- No lane. -/
def noLane : LaneNo → Prop := fun _ => False

section
variable {l m : LaneNo → Prop} {s t u : State}

theorem Alters.refl (l : LaneNo → Prop) (s : State) : Alters l s s :=
  ⟨⟨_, _, _, _, _, _, _, rfl⟩, fun _ => rfl, fun _ _ => rfl, fun _ => rfl⟩

theorem Informs.refl (l : LaneNo → Prop) (s : State) : Informs l s s := ⟨.refl l s, rfl, rfl⟩

theorem Alters.trans (h : Alters l s u) (k : Alters l u t) : Alters l s t where
  frame := by
    obtain ⟨_, _, _, _, _, _, _, hu⟩ := h.frame
    obtain ⟨_, _, _, _, _, _, _, ht⟩ := k.frame
    rw [hu] at ht
    exact ⟨_, _, _, _, _, _, _, ht⟩
  port p := (h.port p).trans (k.port p)
  lane i hi := (h.lane i hi).trans (k.lane i hi)
  contents d := (k.contents d).trans (h.contents d)

theorem Informs.trans (h : Informs l s u) (k : Informs l u t) : Informs l s t :=
  ⟨h.toAlters.trans k.toAlters, k.buffers.trans h.buffers, k.units.trans h.units⟩

theorem Alters.mono (h : Alters l s t) (hl : ∀ k, l k → m k) : Alters m s t :=
  { h with lane := fun k hk => h.lane k (mt (hl k) hk) }

theorem Informs.mono (h : Informs l s t) (hl : ∀ k, l k → m k) : Informs m s t :=
  { h with lane := fun k hk => h.lane k (mt (hl k) hk) }

theorem Informs.of_noLane (h : Informs noLane s t) : Informs l s t := h.mono fun _ => False.elim

/-- Changes of which each informs, one after the other. -/
theorem Informs.foldl {α : Type} {f : State → α → State} (hf : ∀ u a, Informs l u (f u a))
    (as : List α) (s : State) : Informs l s (as.foldl f s) := by
  induction as generalizing s with
  | nil => exact .refl l s
  | cons a as ih => exact (hf s a).trans (ih (f s a))

theorem Alters.foldl {α : Type} {f : State → α → State} (hf : ∀ u a, Alters l u (f u a))
    (as : List α) (s : State) : Alters l s (as.foldl f s) := by
  induction as generalizing s with
  | nil => exact .refl l s
  | cons a as ih => exact (hf s a).trans (ih (f s a))

theorem Informs.exists (h : Informs l s t) :
    ∃ ports xp ducks arbiter lanes,
      t = { s with ports := ports, xp := xp, ducks := ducks, arbiter := arbiter, lanes := lanes } := by
  obtain ⟨ports, xp, ducks, arbiter, lanes, buffers, units, rfl⟩ := h.frame
  obtain rfl : buffers = s.buffers := h.buffers
  obtain rfl : units = s.units := h.units
  exact ⟨ports, xp, ducks, arbiter, lanes, rfl⟩

/-! ## What an entry's state is decided by -/

theorem Informs.linkPresent (h : Informs noLane s t) (p : PortNo) :
    t.linkPresent p = s.linkPresent p := by
  simp only [State.linkPresent, (h.port p).boundLanes, (h.lane _ id).state]

theorem Informs.parks (h : Informs noLane s t) (p : PortNo) : t.parks p = s.parks p := by
  rw [State.parks, State.parks, h.linkPresent, (h.port p).isolated, (h.port p).cls]

theorem Informs.guarded (h : Informs noLane s t) (p : PortNo) : t.guarded p = s.guarded p := by
  rw [State.guarded, State.guarded, (h.port p).binding, (h.port p).cls]

theorem Informs.entryState (h : Informs noLane s t) (src dst : PortNo) :
    t.entryState src dst = s.entryState src dst := by
  rw [State.entryState, State.entryState, h.parks, h.parks, h.guarded, (h.port dst).cls]

end

/-! ## The operations -/

theorem informs_modArbiter (s : State) (f : Arbiter → Arbiter) : Informs noLane s (s.modArbiter f) :=
  ⟨⟨⟨_, _, _, _, _, _, _, rfl⟩, fun _ => rfl, fun _ _ => rfl, fun _ => rfl⟩, rfl, rfl⟩

/-- A row whose claims stay. -/
theorem informs_setInto (s : State) (d : PortNo) {row : List Entry}
    (h : row.map Entry.contents = (s.into d).map Entry.contents) : Informs noLane s (s.setInto d row) := by
  refine ⟨⟨⟨_, _, _, _, _, _, _, rfl⟩, fun _ => rfl, fun _ _ => rfl, fun e => ?_⟩, rfl, rfl⟩
  rw [into_setInto]
  split
  · next heq => rw [heq, h]
  · rfl

theorem informs_onDuck (s : State) (p : PortNo) {f : List Entry → DuckPort → DuckPort}
    (hf : ∀ es (x : DuckPort), x.1.SameButProfile (f es x).1) : Informs noLane s (s.onDuck p f) := by
  refine ⟨⟨⟨_, _, _, _, _, _, _, rfl⟩, fun q => ?_, fun _ _ => rfl, fun _ => rfl⟩, rfl, rfl⟩
  have hport : (s.onDuck p f).port q =
      if q = p then (f (s.into p) (s.port p, s.duck p)).1 else s.port q := Table.get_set _ _ _ _
  rw [hport]
  split
  · next heq => exact heq ▸ hf (s.into p) (s.port p, s.duck p)
  · rfl

theorem informs_reassessDuck (s : State) (p : PortNo) : Informs noLane s (s.reassessDuck p) :=
  s.informs_onDuck p duckReassess_port

theorem informs_modLane (s : State) (l : LaneNo) (f : Lane → Lane) : Informs (· = l) s (s.modLane l f) := by
  refine ⟨⟨⟨_, _, _, _, _, _, _, rfl⟩, fun _ => rfl, fun k hk => ?_, fun _ => rfl⟩, rfl, rfl⟩
  rw [lane_modLane, if_neg hk]
  rfl

theorem informs_onAir (s : State) (l : LaneNo) (onAir : Bool) :
    Informs noLane s (s.modLane l fun x => { x with onAir := onAir }) := by
  refine ⟨⟨⟨_, _, _, _, _, _, _, rfl⟩, fun _ => rfl, fun k _ => ?_, fun _ => rfl⟩, rfl, rfl⟩
  rw [lane_modLane]
  split
  · next heq => rw [heq]; rfl
  · rfl

theorem informs_refreshOnAir (s : State) (p : PortNo) : Informs noLane s (s.refreshOnAir p) :=
  Informs.foldl (fun u l => u.informs_onAir l (u.onAirOf p)) _ s

theorem informs_restateEntry (s : State) (src dst : PortNo) :
    Informs noLane s (s.restateEntry src dst) := by
  unfold restateEntry
  split
  · exact .refl _ s
  · dsimp only
    split
    · exact .refl _ s
    · have hset := s.informs_setInto dst
        (contents_map_state (s.into dst) src (s.entryState src dst))
      refine Informs.trans ?_ (informs_refreshOnAir _ src)
      split
      · exact hset.trans (informs_reassessDuck _ dst)
      · exact (hset.trans (informs_reassessDuck _ dst)).trans (informs_modArbiter _ _)

theorem informs_restatePort (s : State) (p : PortNo) : Informs noLane s (s.restatePort p) :=
  Informs.foldl (fun u (x : PortNo × PortNo) => u.informs_restateEntry x.1 x.2) _ s

end State

/-! ## The states a re-statement decides (R36) -/

/-- An entry with a new state. -/
def Entry.withState (e : Entry) (st : EntryState) : Entry := { e with state := st }

namespace State

theorem refreshOnAir_xp (s : State) (p : PortNo) : (s.refreshOnAir p).xp = s.xp := by
  have hfold (lanes : List LaneNo) (u : State) :
      (lanes.foldl (fun s l => s.modLane l fun x => { x with onAir := s.onAirOf p }) u).xp = u.xp := by
    induction lanes generalizing u with
    | nil => rfl
    | cons l lanes ih => exact ih _
  exact hfold _ s

/-- Entries of one row that have the same source are the same entry. -/
theorem eq_of_source {es : List Entry} (hnodup : (es.map Entry.source).Nodup) {x y : Entry}
    (hx : x ∈ es) (hy : y ∈ es) (h : x.source = y.source) : x = y :=
  List.inj_on_of_nodup_map hnodup hx hy h

/-- Nothing but the entry of the pair is decided anew. -/
theorem restateEntry_into (s : State) (src dst d : PortNo)
    (hnodup : ((s.into dst).map Entry.source).Nodup) :
    (s.restateEntry src dst).into d =
      (s.into d).map fun x =>
        if x.source = src ∧ d = dst then x.withState (s.entryState src dst) else x := by
  have hsame (hall : ∀ x ∈ s.into dst, x.source = src → x.state = s.entryState src dst) :
      s.into d = (s.into d).map fun x =>
        if x.source = src ∧ d = dst then x.withState (s.entryState src dst) else x := by
    refine ((List.map_congr_left fun x hx => ?_).trans (List.map_id _)).symm
    split
    · next h =>
      obtain ⟨hsource, rfl⟩ := h
      rw [← hall x hx hsource]
      rfl
    · rfl
  unfold restateEntry
  split
  · next hnone =>
    refine hsame fun x hx hsource => ?_
    exact absurd hsource (by simpa using List.find?_eq_none.mp hnone x hx)
  · next e he =>
    obtain ⟨hmem, hsource⟩ := mem_of_entry? he
    dsimp only
    split
    · next hstate =>
      refine hsame fun x hx hx' => ?_
      rw [eq_of_source hnodup hx hmem (hx'.trans hsource.symm), hstate]
    · have hrow : ((s.setInto dst ((s.into dst).map fun x =>
          if x.source = src then x.withState (s.entryState src dst) else x)).into d) =
          (s.into d).map fun x =>
            if x.source = src ∧ d = dst then x.withState (s.entryState src dst) else x := by
        rw [into_setInto]
        split
        · next heq => simp [heq]
        · next hne => simp [hne]
      rw [← hrow, into, refreshOnAir_xp]
      split <;> rfl

/-- The pairs of a list are decided by the ports as they stand, the rest is left alone. -/
theorem foldl_restateEntry_into (pairs : List (PortNo × PortNo)) (s : State) (d : PortNo)
    (hnodup : ∀ d, ((s.into d).map Entry.source).Nodup) :
    (pairs.foldl (fun s x => s.restateEntry x.1 x.2) s).into d =
      (s.into d).map fun x =>
        if (x.source, d) ∈ pairs then x.withState (s.entryState x.source d) else x := by
  induction pairs generalizing s with
  | nil => simp
  | cons y ys ih =>
    have hinforms := s.informs_restateEntry y.1 y.2
    have hnodup' (d : PortNo) : (((s.restateEntry y.1 y.2).into d).map Entry.source).Nodup := by
      rw [sources_of_contents (hinforms.contents d)]
      exact hnodup d
    rw [List.foldl_cons, ih _ hnodup', restateEntry_into _ _ _ _ (hnodup y.2), List.map_map]
    refine List.map_congr_left fun x _ => ?_
    have hstate (src dst : PortNo) := hinforms.entryState src dst
    by_cases hy : x.source = y.1 ∧ d = y.2
    · have hy' : (x.source, d) = y := Prod.ext hy.1 hy.2
      simp only [Function.comp_apply, if_pos hy, hstate, List.mem_cons, hy', true_or, if_true]
      split <;> simp [Entry.withState, hy.1, hy.2]
    · have hy' : (x.source, d) ≠ y := fun h => hy ⟨congrArg Prod.fst h, congrArg Prod.snd h⟩
      simp only [Function.comp_apply, if_neg hy, hstate, List.mem_cons, hy', false_or]

/-- A re-stated port has every entry that touches it decided anew, and no other (R36). -/
theorem restatePort_into (s : State) (p d : PortNo) (hsound : s.CrosspointsSound) :
    (s.restatePort p).into d =
      (s.into d).map fun x =>
        if x.source = p ∨ d = p then x.withState (s.entryState x.source d) else x := by
  obtain ⟨-, hrows⟩ := hsound
  rw [restatePort, foldl_restateEntry_into _ _ _ fun d => (hrows d).2.1]
  refine List.map_congr_left fun x hx => ?_
  have hmem : (x.source, d) ∈ s.pairsTouching p ↔ x.source = p ∨ d = p := by
    simp only [pairsTouching, allPorts, List.mem_flatMap, List.mem_finRange, true_and, List.mem_map,
      List.mem_filter, Prod.mk.injEq, decide_eq_true_eq]
    constructor
    · rintro ⟨d', e, ⟨he, htouch⟩, hsource, rfl⟩
      rwa [← hsource]
    · exact fun h => ⟨d, x, ⟨hx, h⟩, rfl, rfl⟩
  simp only [hmem]

end State

/-! ## PORT-SET ISOLATE and GUARD-CLEAR -/

/-- What a re-statement of a port leaves: its entries as the ports now decide them, the others untouched. -/
structure State.Restated (p : PortNo) (s t : State) : Prop where
  decided : ∀ d, ∀ e ∈ t.into d, e.source = p ∨ d = p → e.state = t.entryState e.source d
  contents : ∀ d, (t.into d).map Entry.contents = (s.into d).map Entry.contents
  others : ∀ d, d ≠ p → ∀ e ∈ s.into d, e.source ≠ p → e ∈ t.into d

theorem restatePort_restated {s : State} (p : PortNo) (hsound : s.CrosspointsSound) :
    s.Restated p (s.restatePort p) := by
  have hinforms := s.informs_restatePort p
  refine ⟨fun d e he htouch => ?_, hinforms.contents, fun d hd e he hsource => ?_⟩
  · rw [State.restatePort_into s p d hsound] at he
    obtain ⟨x, hx, rfl⟩ := List.mem_map.mp he
    rw [hinforms.entryState]
    split
    · rfl
    · next hnot =>
      rw [if_neg hnot] at htouch
      exact absurd htouch hnot
  · rw [State.restatePort_into s p d hsound]
    exact List.mem_map.mpr ⟨e, he, if_neg fun h => h.elim hsource hd⟩

/-- The flag written, the port's entries re-stated, and the probe ended where it measured the port. -/
def State.isolatePort (s : State) (p : PortNo) (isolate : Bool) : State :=
  let t := (s.modPort p fun x => { x with isolated := isolate }).restatePort p
  if isolate then t.abortProbe p true else t

section
variable {s : State} (htake : s.takesCommand = true) (tag : Byte) {port onOff : Byte}
include htake

theorem exec_portSetIsolate_of_refused (hbad : 64 ≤ port.toNat ∨ 2 ≤ onOff.toNat) :
    exec (.portSetIsolate tag port onOff) s = .next (s.reply tag Kind.portSet .badArg) := by
  have hexec : exec (.portSetIsolate tag port onOff) s = .next _ :=
    exec_of_command htake fun _ => rfl
  rw [hexec]
  obtain hport | honOff := hbad
  · rw [number?_eq_none hport]
    rfl
  · have hnone : onOff? onOff = none := code?_eq_none honOff
    rw [hnone]
    split
    · next heq => cases heq
    · rfl

theorem exec_portSetIsolate_of_port {p : PortNo} {isolate : Bool} (hport : port.toNat = p.val)
    (honOff : onOff? onOff = some isolate) :
    exec (.portSetIsolate tag port onOff) s =
      .next (if (s.port p).cls = .unused then s.reply tag Kind.portSet .wrongClass
        else if (s.port p).isolated = isolate then s.reply tag Kind.portSet .ok
        else (s.reply tag Kind.portSet .ok).isolatePort p isolate) := by
  have hexec : exec (.portSetIsolate tag port onOff) s = .next _ :=
    exec_of_command htake fun _ => rfl
  rw [hexec, number?_eq_some hport, honOff]
  rfl

theorem exec_guardClear_of_outOfRange (hport : 64 ≤ port.toNat) :
    exec (.guardClear tag port) s = .next (s.reply tag Kind.guardClear .badArg) := by
  have hexec : exec (.guardClear tag port) s = .next _ := exec_of_command htake fun _ => rfl
  rw [hexec, number?_eq_none hport]

theorem exec_guardClear_of_port {p : PortNo} (hport : port.toNat = p.val) :
    exec (.guardClear tag port) s =
      .next (if (s.port p).cls ≠ .remote then s.reply tag Kind.guardClear .wrongClass
        else if s.guarded p = true then
          ((s.reply tag Kind.guardClear .ok).setGuard p false).restatePort p
        else s.reply tag Kind.guardClear .ok) := by
  have hexec : exec (.guardClear tag port) s = .next _ := exec_of_command htake fun _ => rfl
  rw [hexec, number?_eq_some hport]

end

/-- The probe that PORT-SET ISOLATE ON ends (R90). -/
def State.probeAborted (s : State) (p : PortNo) (isolate : Bool) : Prop :=
  isolate = true ∧ ∃ r, s.probe.run = some r ∧ (r.port = p ∨ r.returnSource = p)

theorem isolate_aborts {s : State} {p : PortNo} {isolate : Bool} (h : s.probeAborted p isolate) :
    (if isolate then s.abortProbe p true else s).probe = s.probe.ended := by
  obtain ⟨rfl, r, hrun, hr⟩ := h
  rw [if_pos rfl, State.abortProbe_of_run hrun (hr.imp id fun h => ⟨rfl, h⟩),
    State.endProbe_of_ne_locked hrun (by decide), State.report_probe]

theorem isolate_of_not_aborted {s : State} {p : PortNo} {isolate : Bool}
    (h : ¬ s.probeAborted p isolate) : (if isolate then s.abortProbe p true else s) = s := by
  split
  · next hon =>
    refine State.abortProbe_of_not fun r hrun hr => h ⟨hon, r, hrun, hr.imp id And.right⟩
  · rfl

theorem isolate_ends_probes (s : State) (p : PortNo) (isolate : Bool) :
    s.EndsProbes (if isolate then s.abortProbe p true else s) := by
  split
  · exact s.abortProbe_ends_probes p true
  · exact .refl s

/-- What isolating a port, or the end of it, does. -/
structure State.Isolates (p : PortNo) (isolate : Bool) (s t : State) : Prop where
  isolated : ∀ q, (t.port q).isolated = if q = p then isolate else (s.port q).isolated
  restated : s.Restated p t
  forms : s.FormsReplies t []
  frame : ∃ ports ducks xp arbiter lanes probe cancel rs tx q,
    t = { s with
      ports := ports, ducks := ducks, xp := xp, arbiter := arbiter, lanes := lanes, probe := probe
      cancel := cancel, control := { s.control with replies := rs, tx := tx }, reports := q }
  aborted : s.probeAborted p isolate → t.probe = s.probe.ended
  kept : ¬ s.probeAborted p isolate →
    t.control = s.control ∧ t.reports = s.reports ∧ t.probe = s.probe ∧ t.cancel = s.cancel

theorem isolatePort_isolates {s : State} (p : PortNo) (isolate : Bool) (hsound : s.CrosspointsSound) :
    s.Isolates p isolate (s.isolatePort p isolate) := by
  have hrestated := restatePort_restated (s := s.modPort p fun x => { x with isolated := isolate }) p
    hsound
  have hinforms := (s.modPort p fun x => { x with isolated := isolate }).informs_restatePort p
  have hport (q : PortNo) := s.port_modPort p q fun x => { x with isolated := isolate }
  unfold State.isolatePort
  dsimp only
  generalize State.restatePort _ p = w at hrestated hinforms
  have hends := isolate_ends_probes w p isolate
  have habort := isolate_aborts (s := w) (p := p) (isolate := isolate)
  have hkept := isolate_of_not_aborted (s := w) (p := p) (isolate := isolate)
  generalize (if isolate = true then w.abortProbe p true else w) = t at hends habort hkept ⊢
  have hisolated (q : PortNo) : (t.port q).isolated = if q = p then isolate else (s.port q).isolated := by
    rw [hends.port, (hinforms.port q).isolated, hport]
    split <;> rfl
  have hforms := hends.forms
  obtain ⟨ports, xp, ducks, arbiter, lanes, rfl⟩ := hinforms.exists
  refine ⟨hisolated, ?_, hforms, ?_, habort, fun h => ?_⟩
  · obtain ⟨cancel, probe, rs, tx, q, rfl⟩ := hends.frame
    exact ⟨hrestated.decided, hrestated.contents, hrestated.others⟩
  · obtain ⟨cancel, probe, rs, tx, q, rfl⟩ := hends.frame
    exact ⟨_, _, _, _, _, _, _, _, _, _, rfl⟩
  · rw [hkept h]
    exact ⟨rfl, rfl, rfl, rfl⟩

/-- Settles O17: the flag, the re-statement under it, then the probe. -/
theorem isolateRestatesEveryEntryOfThePort : Obligations.IsolateRestatesEveryEntryOfThePort := by
  intro tag port onOff s htake hsound
  refine ⟨fun hbad => completes_of_reply (exec_portSetIsolate_of_refused htake tag hbad) rfl rfl,
    fun p isolate hport honOff => ?_⟩
  have hexec := exec_portSetIsolate_of_port htake tag hport honOff
  refine ⟨fun hcls => ?_, fun hcls hsame => ?_, fun hcls hne => ?_⟩
  · rw [if_pos hcls] at hexec
    exact completes_of_reply hexec rfl rfl
  · rw [if_neg hcls, if_pos hsame] at hexec
    exact completes_of_reply hexec rfl rfl
  · rw [if_neg hcls, if_neg hne] at hexec
    generalize hu : State.reply _ _ _ _ _ = u at hexec
    obtain ⟨hforms, hsent, hdropped⟩ := hu ▸ State.reply_answers ..
    obtain ⟨rs, tx, q, rfl⟩ := (hu ▸ State.reply_isBut ..).exists_waiting
    have hisolates := isolatePort_isolates p isolate (s := { s with
      control := { s.control with replies := rs, tx := tx }, reports := q }) hsound
    generalize State.isolatePort _ p isolate = t at hexec hisolates
    obtain ⟨hisolated, ⟨hdecided, hcontents, hothers⟩, hnoReply, hframe, haborted, hkept⟩ := hisolates
    refine ⟨t, hexec, hforms.trans hnoReply, (hisolated p).trans (if_pos rfl),
      fun q hq => (hisolated q).trans (if_neg hq), hdecided, hcontents, hothers, fun h => ?_,
      fun h => ?_, ?_⟩
    · rw [haborted h]
      exact ⟨rfl, rfl, rfl⟩
    · obtain ⟨hcontrol, hreports, hprobe, hcancel⟩ := hkept h
      refine ⟨⟨?_, ?_⟩, hprobe, hcancel⟩
      · rw [← hsent, State.unsentReports, State.unsentReports, hcontrol, hreports]
      · rw [← hdropped, hreports]
    · obtain ⟨ports, ducks, xp, arbiter, lanes, probe, cancel, rs, tx, q, rfl⟩ := hframe
      rfl

/-! ## HEALTH-SET -/

section
variable {s : State} (htake : s.takesCommand = true) (tag : Byte)
  (interval threshold hardCount : Half) {autoGuard : Byte} (retention : Half)
include htake

theorem exec_healthSet_of_refused (hauto : 2 ≤ autoGuard.toNat) :
    exec (.healthSet tag interval threshold hardCount autoGuard retention) s =
      .next (s.reply tag Kind.healthSet .badArg) := by
  have hexec : exec (.healthSet tag interval threshold hardCount autoGuard retention) s = .next _ :=
    exec_of_command htake fun _ => rfl
  have hnone : onOff? autoGuard = none := code?_eq_none hauto
  rw [hexec, hnone]

theorem exec_healthSet_of_auto {auto : Bool} (hauto : onOff? autoGuard = some auto) :
    exec (.healthSet tag interval threshold hardCount autoGuard retention) s =
      .next ({ s with health :=
        { s.health with settings :=
          { interval := max 1 (min 3600 interval.toNat)
            threshold := max 1 (min 1000 threshold.toNat)
            hardCount := max 1 (min 1000 hardCount.toNat)
            autoGuard := auto
            retention := max 1 (min 1000 retention.toNat) } } }.reply tag Kind.healthSet
        (if (1 ≤ interval.toNat ∧ interval.toNat ≤ 3600) ∧
            (1 ≤ threshold.toNat ∧ threshold.toNat ≤ 1000) ∧
            (1 ≤ hardCount.toNat ∧ hardCount.toNat ≤ 1000) ∧
            (1 ≤ retention.toNat ∧ retention.toNat ≤ 1000) then .ok else .clamped)) := by
  have hexec : exec (.healthSet tag interval threshold hardCount autoGuard retention) s = .next _ :=
    exec_of_command htake fun _ => rfl
  rw [hexec, hauto]
  simp only [inRange, ← Bool.decide_and, clampTo]
  rw [← okOr_not_and]
  simp only [Bool.decide_and]

end

theorem guarded_of_remote {s : State} {p : PortNo} {b : LaneBinding}
    (hcls : (s.port p).cls = .remote) (hbinding : (s.port p).binding = some b) :
    s.guarded p = b.guarded := by
  simp [State.guarded, hbinding, hcls]

/-- Settles O55: the settings clamped; the guard flag written, then the port's entries re-stated. -/
theorem healthSettingsAndGuards : Obligations.HealthSettingsAndGuards := by
  intro tag s htake
  refine ⟨fun interval threshold hardCount autoGuard retention => ⟨fun hbad => ?_, fun auto hauto => ?_⟩,
    fun port => ⟨fun hbad => ?_, fun p hport => ?_⟩⟩
  · exact completes_of_reply (exec_healthSet_of_refused htake tag _ _ _ _ hbad) rfl rfl
  · exact completes_of_reply (exec_healthSet_of_auto htake tag _ _ _ _ hauto) rfl rfl
  · exact completes_of_reply (exec_guardClear_of_outOfRange htake tag hbad) rfl rfl
  have hexec := exec_guardClear_of_port htake tag hport
  refine ⟨fun hcls => ?_, fun b hcls hbinding => ⟨fun hclear => ?_, fun hset hsound => ?_⟩⟩
  · rw [if_pos hcls] at hexec
    exact completes_of_reply hexec rfl rfl
  · rw [if_neg (not_not.mpr hcls), guarded_of_remote hcls hbinding, hclear] at hexec
    exact completes_of_reply hexec rfl rfl
  · rw [if_neg (not_not.mpr hcls), guarded_of_remote hcls hbinding, if_pos hset] at hexec
    generalize hu : State.reply _ _ _ _ _ = u at hexec
    have hanswers := hu ▸ State.reply_answers ..
    obtain ⟨rs, tx, q, rfl⟩ := (hu ▸ State.reply_isBut ..).exists_waiting
    have hport (q : PortNo) := s.port_modPort p q fun x =>
      { x with binding := x.binding.map fun b => { b with guarded := false } }
    have hrestated := restatePort_restated (s := State.setGuard { s with
      control := { s.control with replies := rs, tx := tx }, reports := q } p false) p hsound
    have hinforms := (State.setGuard { s with
      control := { s.control with replies := rs, tx := tx }, reports := q } p
        false).informs_restatePort p
    generalize State.restatePort _ p = t at hexec hrestated hinforms
    have hbound (q : PortNo) := (hinforms.port q).binding.trans (congrArg Port.binding (hport q))
    obtain ⟨ports, xp, ducks, arbiter, lanes, rfl⟩ := hinforms.exists
    refine ⟨_, hexec, hanswers, (hbound p).trans ?_, fun q hq => (hbound q).trans ?_,
      hrestated.decided, hrestated.contents, hrestated.others, rfl⟩
    · rw [if_pos rfl, hbinding, Option.map_some]
    · rw [if_neg hq]

end Sys2Proof.Machine
end

section
/-! PROOFS. Changes of lane state (R159) and the lane commands (O53). -/

namespace Sys2Proof.Machine

/-- A lane as a change of its state leaves it: a unit is kept in the states that keep one, the remote call in
the run states. -/
def Lane.changed (x : Lane) (st : LaneState) : Lane :=
  { x.arrive st with
    unitHeld := if st.keepsUnit then x.unitHeld else none
    remoteCall := st.isRun && x.remoteCall }

namespace State

theorem Informs.modLane {l : LaneNo} {s t : State} (h : Informs (· = l) s t) (f : Lane → Lane) :
    Informs (· = l) s (t.modLane l f) := h.trans (t.informs_modLane l f)

theorem Alters.modLane {l : LaneNo} {s t : State} (h : Alters (· = l) s t) (f : Lane → Lane) :
    Alters (· = l) s (t.modLane l f) := h.trans (t.informs_modLane l f).toAlters

theorem lane_modLane_same (s : State) (l : LaneNo) (f : Lane → Lane) :
    (s.modLane l f).lane l = f (s.lane l) := by rw [lane_modLane, if_pos rfl]

/-! ## The parts of a change of lane state -/

/-- The new state taken, and the port's entries re-stated where its link presence changed. -/
def arriveAt (s : State) (l : LaneNo) (st : LaneState) : State :=
  let s1 := s.modLane l fun x => x.arrive st
  match (s.lane l).boundPort with
  | some p => if s1.linkPresent p = s.linkPresent p then s1 else s1.restatePort p
  | none => s1

/-- The unit and the remote call let go where the new state keeps none. -/
def letGo (s : State) (l : LaneNo) (st : LaneState) : State :=
  let s1 := if st.keepsUnit then s else s.releaseUnit l
  if st.isRun then s1 else s1.modLane l fun x => { x with remoteCall := false }

theorem changeLaneState_eq (s : State) (l : LaneNo) (st : LaneState) :
    s.changeLaneState l st =
      match (s.lane l).boundPort with
      | some p =>
        if s.portDelivers p && !((s.arriveAt l st).letGo l st).portDelivers p then
          ((s.arriveAt l st).letGo l st).flushBuffer p
        else (s.arriveAt l st).letGo l st
      | none => (s.arriveAt l st).letGo l st := rfl

theorem arriveAt_informs (s : State) (l : LaneNo) (st : LaneState) :
    Informs (· = l) s (s.arriveAt l st) := by
  have harrive := s.informs_modLane l fun x => x.arrive st
  unfold arriveAt
  dsimp only
  split
  · split
    · exact harrive
    · exact harrive.trans (informs_restatePort _ _).of_noLane
  · exact harrive

theorem arriveAt_lane (s : State) (l : LaneNo) (st : LaneState) :
    ((s.lane l).arrive st).SameButOnAir ((s.arriveAt l st).lane l) := by
  rw [← s.lane_modLane_same l fun x => x.arrive st]
  unfold arriveAt
  dsimp only
  split
  · split
    · rfl
    · exact (informs_restatePort _ _).lane l id
  · rfl

theorem releaseUnit_alters (s : State) (l : LaneNo) : Alters (· = l) s (s.releaseUnit l) := by
  unfold releaseUnit
  split
  · exact .refl _ s
  · have hlane := (s.informs_modLane l fun x => { x with unitHeld := none }).toAlters
    dsimp only
    split
    · exact hlane
    · refine hlane.trans ⟨⟨_, _, _, _, _, _, _, rfl⟩, fun _ => rfl, fun _ _ => rfl, fun _ => rfl⟩

theorem releaseUnit_lane (s : State) (l : LaneNo) :
    (s.releaseUnit l).lane l = { s.lane l with unitHeld := none } := by
  unfold releaseUnit
  split
  · next h => rw [← h]
  · rw [← s.lane_modLane_same l fun x => { x with unitHeld := none }]
    dsimp only
    split <;> rfl

theorem letGo_alters (s : State) (l : LaneNo) (st : LaneState) : Alters (· = l) s (s.letGo l st) := by
  have hrelease : Alters (· = l) s (if st.keepsUnit then s else s.releaseUnit l) := by
    split
    · exact .refl _ s
    · exact s.releaseUnit_alters l
  unfold letGo
  dsimp only
  split
  · exact hrelease
  · exact hrelease.modLane _

theorem letGo_lane (s : State) (l : LaneNo) (st : LaneState) :
    (s.letGo l st).lane l =
      { s.lane l with
        unitHeld := if st.keepsUnit then (s.lane l).unitHeld else none
        remoteCall := st.isRun && (s.lane l).remoteCall } := by
  have hrelease : (if st.keepsUnit then s else s.releaseUnit l).lane l =
      { s.lane l with unitHeld := if st.keepsUnit then (s.lane l).unitHeld else none } := by
    split
    · rfl
    · exact s.releaseUnit_lane l
  unfold letGo
  dsimp only
  cases st.isRun with
  | true => rw [if_pos rfl, hrelease, Bool.true_and]
  | false => rw [if_neg (by decide), lane_modLane_same, hrelease, Bool.false_and]

theorem flushBuffer_alters (s : State) (p : PortNo) (l : LaneNo → Prop) :
    Alters l s (s.flushBuffer p) := by
  unfold flushBuffer
  split
  · exact ⟨⟨_, _, _, _, _, _, _, rfl⟩, fun _ => rfl, fun _ _ => rfl, fun _ => rfl⟩
  · exact .refl _ s

/-- The path buffer is flushed at most, beyond the lane's own change. -/
theorem changeLaneState_after (s : State) (l : LaneNo) (st : LaneState) :
    Alters noLane ((s.arriveAt l st).letGo l st) (s.changeLaneState l st) := by
  rw [changeLaneState_eq]
  split
  · split
    · exact flushBuffer_alters _ _ _
    · exact .refl _ _
  · exact .refl _ _

theorem changeLaneState_alters (s : State) (l : LaneNo) (st : LaneState) :
    Alters (· = l) s (s.changeLaneState l st) :=
  ((s.arriveAt_informs l st).toAlters.trans (letGo_alters _ l st)).trans
    ((s.changeLaneState_after l st).mono fun _ => False.elim)

theorem changeLaneState_lane (s : State) (l : LaneNo) (st : LaneState) :
    ((s.lane l).changed st).SameButOnAir ((s.changeLaneState l st).lane l) := by
  have harrive := s.arriveAt_lane l st
  have hletGo := (s.arriveAt l st).letGo_lane l st
  refine Lane.SameButOnAir.trans ?_ ((s.changeLaneState_after l st).lane l id)
  rw [hletGo, harrive]
  rfl

/-! ## A lane that delivers in its new state -/

/-- The port still delivers where the lane that changed delivers and the others are as they were. -/
theorem portDelivers_of_informs {s t : State} {l : LaneNo} (h : Informs (· = l) s t)
    (hl : (t.lane l).state.delivers = true) {p : PortNo} (hp : s.portDelivers p = true) :
    t.portDelivers p = true := by
  simp only [portDelivers, List.any_eq_true, (h.port p).boundLanes] at hp ⊢
  obtain ⟨k, hk, hdelivers⟩ := hp
  refine ⟨k, hk, ?_⟩
  by_cases hkl : k = l
  · rw [hkl, hl]
  · rw [(h.lane k hkl).state, hdelivers]

theorem keepsUnit_of_delivers {st : LaneState} (h : st.delivers = true) :
    st.keepsUnit = true ∧ st.isRun = true := by
  revert h
  cases st <;> decide

/-- A state that delivers keeps the unit and the remote call, and flushes nothing. -/
theorem changeLaneState_of_delivers (s : State) (l : LaneNo) {st : LaneState}
    (hst : st.delivers = true) : s.changeLaneState l st = s.arriveAt l st := by
  have hletGo : (s.arriveAt l st).letGo l st = s.arriveAt l st := by
    obtain ⟨hkeeps, hrun⟩ := keepsUnit_of_delivers hst
    rw [letGo, if_pos hkeeps, if_pos hrun]
  have hdelivers : ((s.arriveAt l st).lane l).state.delivers = true := by
    rw [(s.arriveAt_lane l st).state]
    exact hst
  rw [changeLaneState_eq, hletGo]
  split
  · next p _ =>
    refine if_neg fun h => ?_
    obtain ⟨hbefore, hafter⟩ := Bool.and_eq_true_iff.mp h
    rw [portDelivers_of_informs (s.arriveAt_informs l st) hdelivers hbefore] at hafter
    cases hafter
  · rfl

end State

namespace State

/-! ## Entries to lane states -/

theorem enterSeek_alters (s : State) (l : LaneNo) : Alters (· = l) s (s.enterSeek l) :=
  (s.changeLaneState_alters l .seek).modLane _

theorem enterOff_alters (s : State) (l : LaneNo) : Alters (· = l) s (s.enterOff l) :=
  (s.changeLaneState_alters l .off).modLane _

/-- A fresh handshake starts with the preference in force, without a unit, its sequence at 0 (R137). -/
theorem enterSeek_lane (s : State) (l : LaneNo) :
    let x := (s.enterSeek l).lane l
    x.state = .seek ∧ x.enable = (s.lane l).enable ∧ x.pref = (s.lane l).pref ∧
      x.roundPref = (s.lane l).pref ∧ x.abilities = (s.lane l).abilities ∧ x.unitHeld = none ∧
      x.txSeq = 0 ∧ x.boundPort = (s.lane l).boundPort := by
  dsimp only
  rw [enterSeek, lane_modLane_same, s.changeLaneState_lane l .seek]
  exact ⟨rfl, rfl, rfl, rfl, rfl, rfl, rfl, rfl⟩

/-- OFF keeps the latches and the counts, and nothing of the handshake (R149). -/
theorem enterOff_lane (s : State) (l : LaneNo) :
    let x := (s.enterOff l).lane l
    x.state = .off ∧ x.enable = (s.lane l).enable ∧ x.pref = (s.lane l).pref ∧ x.role = none ∧
      x.profile = none ∧ x.unitHeld = none ∧ x.consecutiveErrors = 0 ∧
      x.frameErrors = (s.lane l).frameErrors ∧ x.lostLatch = (s.lane l).lostLatch := by
  dsimp only
  rw [enterOff, lane_modLane_same, s.changeLaneState_lane l .off]
  exact ⟨rfl, rfl, rfl, rfl, rfl, rfl, rfl, rfl, rfl⟩

/-- A wake from DOZE moves the lane to WAKING and nothing else: its link stays absent, its unit kept. -/
theorem enterWaking_of_doze {s : State} {l : LaneNo} (h : (s.lane l).state = .doze) :
    s.enterWaking l =
      s.modLane l fun x =>
        { x with
          state := .waking, wakeCount := 0
          silenceTimer := x.silenceTimer.map fun _ => 72 } := by
  have hlink (p : PortNo) : (s.modLane l fun x => x.arrive .waking).linkPresent p = s.linkPresent p := by
    simp only [linkPresent]
    refine congrArg₂ _ rfl (funext fun k => ?_)
    rw [lane_modLane]
    split
    · next heq => rw [heq, h]; rfl
    · rfl
  have harrive : s.arriveAt l .waking = s.modLane l fun x => x.arrive .waking := by
    unfold arriveAt
    dsimp only
    split
    · exact if_pos (hlink _)
    · rfl
  have hheld : (s.lane l).arrive .waking =
      { s.lane l with
        state := .waking, silenceTimer := (s.lane l).silenceTimer.map fun _ => 72 } := by
    simp only [Lane.arrive, h]
    simp [LaneState.silenceLength]
  rw [enterWaking, changeLaneState_of_delivers _ _ rfl, harrive]
  simp only [State.modLane, lane, Table.get_set_same, Table.set_set] at hheld ⊢
  rw [hheld]

/-- What has been answered stays so through a change of lanes. -/
theorem Answers.of_alters {s u t : State} {l : LaneNo → Prop} {tag kind : Byte} {code : ResultCode}
    {fields : ReplyFields} (h : s.Answers u tag kind code fields) (ha : Alters l u t) :
    s.Answers t tag kind code fields := by
  obtain ⟨ports, xp, ducks, arbiter, lanes, buffers, units, rfl⟩ := ha.frame
  exact h

end State

/-! ## The lane commands -/

section
variable {s : State} (htake : s.takesCommand = true) (tag : Byte) {lane : Byte}
include htake

theorem exec_laneSet_of_refused {enable pref : Byte}
    (h : 24 ≤ lane.toNat ∨ 2 ≤ enable.toNat ∨ 3 ≤ pref.toNat) :
    exec (.laneSet tag lane enable pref) s = .next (s.reply tag Kind.laneSet .badArg) := by
  have hexec : exec (.laneSet tag lane enable pref) s = .next _ := exec_of_command htake fun _ => rfl
  rw [hexec]
  split
  · next l on want hl hon hwant =>
    obtain h | h | h := h
    · rw [number?_eq_none h] at hl; cases hl
    · exact absurd (hon.symm.trans (code?_eq_none h)) (by simp)
    · exact absurd (hwant.symm.trans (code?_eq_none h)) (by simp)
  · rfl

theorem exec_laneSet_of_lane {enable pref : Byte} {l : LaneNo} {on : Bool} {want : RolePref}
    (hl : lane.toNat = l.val) (hon : onOff? enable = some on) (hwant : rolePref? pref = some want) :
    exec (.laneSet tag lane enable pref) s =
      .next (let t := (s.reply tag Kind.laneSet .ok).modLane l fun x =>
          { x with enable := on, pref := want }
        if on = (s.lane l).enable then t
        else if on = true then (if (s.lane l).boundPort.isSome then t.enterSeek l else t)
        else if (s.lane l).state = .off then t
        else t.enterOff l) := by
  have hexec : exec (.laneSet tag lane enable pref) s = .next _ := exec_of_command htake fun _ => rfl
  rw [hexec, number?_eq_some hl, hon, hwant]

theorem exec_laneGet_of_outOfRange (h : 24 ≤ lane.toNat) :
    exec (.laneGet tag lane) s = .next (s.reply tag Kind.laneGet .badArg) := by
  have hexec : exec (.laneGet tag lane) s = .next _ := exec_of_command htake fun _ => rfl
  rw [hexec, number?_eq_none h]

theorem exec_laneGet_of_lane {l : LaneNo} (hl : lane.toNat = l.val) :
    exec (.laneGet tag lane) s =
      .next ((s.reply tag Kind.laneGet .ok (.lane (s.lane l).reading)).modLane l
        Lane.afterReading) := by
  have hexec : exec (.laneGet tag lane) s = .next _ := exec_of_command htake fun _ => rfl
  rw [hexec, number?_eq_some hl]

theorem exec_laneRetune_of_refused {abilities : Byte}
    (h : 24 ≤ lane.toNat ∨ abilities.toNat = 0 ∨ 4 ≤ abilities.toNat) :
    exec (.laneRetune tag lane abilities) s = .next (s.reply tag Kind.laneRetune .badArg) := by
  have hexec : exec (.laneRetune tag lane abilities) s = .next _ := exec_of_command htake fun _ => rfl
  rw [hexec]
  split
  · next l set hl hset =>
    obtain h | h := h
    · rw [number?_eq_none h] at hl; cases hl
    · rw [abilities?, if_pos h] at hset; cases hset
  · rfl

theorem exec_laneRetune_of_lane {abilities : Byte} {l : LaneNo} (hl : lane.toNat = l.val)
    (h : ¬ (abilities.toNat = 0 ∨ 4 ≤ abilities.toNat)) :
    exec (.laneRetune tag lane abilities) s =
      .next (if (s.lane l).state = .off then
          (s.modLane l fun x => { x with abilities :=
            { tight := abilities.getLsbD 0, robust := abilities.getLsbD 1 } }).reply tag
              Kind.laneRetune .ok
        else if (s.lane l).state = .doze then
          ((s.reply tag Kind.laneRetune .ok).modLane l fun x => { x with abilities :=
            { tight := abilities.getLsbD 0, robust := abilities.getLsbD 1 } }).enterSeek l
        else s.reply tag Kind.laneRetune .notQuiet) := by
  have hexec : exec (.laneRetune tag lane abilities) s = .next _ := exec_of_command htake fun _ => rfl
  have hset : abilities? abilities =
      some { tight := abilities.getLsbD 0, robust := abilities.getLsbD 1 } := if_neg h
  rw [hexec, number?_eq_some hl, hset]
  dsimp only
  split
  · next hoff => rw [if_pos hoff]
  · next hdoze => rw [if_neg (by simp [hdoze]), if_pos hdoze]
  · next hoff hdoze => rw [if_neg hoff, if_neg hdoze]

theorem exec_laneWake_of_outOfRange (h : 24 ≤ lane.toNat) :
    exec (.laneWake tag lane) s = .next (s.reply tag Kind.laneWake .badArg) := by
  have hexec : exec (.laneWake tag lane) s = .next _ := exec_of_command htake fun _ => rfl
  rw [hexec, number?_eq_none h]

theorem exec_laneWake_of_lane {l : LaneNo} (hl : lane.toNat = l.val) :
    exec (.laneWake tag lane) s =
      .next (if (s.lane l).state = .doze then (s.reply tag Kind.laneWake .ok).enterWaking l
        else s.reply tag Kind.laneWake .ok) := by
  have hexec : exec (.laneWake tag lane) s = .next _ := exec_of_command htake fun _ => rfl
  rw [hexec, number?_eq_some hl]

end

theorem reply_lane (s : State) (tag kind : Byte) (code : ResultCode) (fields : ReplyFields)
    (l : LaneNo) : (s.reply tag kind code fields).lane l = s.lane l := by
  rw [State.lane, State.reply_lanes]
  rfl

/-- A command answered first, whose only other effect is on one lane. -/
theorem completes_modLane {i : Instr} {s : State} {tag kind : Byte} {code : ResultCode}
    {fields : ReplyFields} {l : LaneNo} {f : Lane → Lane}
    (hexec : exec i s = .next ((s.reply tag kind code fields).modLane l f)) :
    Completes i s (s.modLane l f) tag kind code fields := by
  generalize hu : State.reply _ _ _ _ _ = u at hexec
  have hanswers := hu ▸ State.reply_answers ..
  obtain ⟨rs, tx, q, rfl⟩ := (hu ▸ State.reply_isBut ..).exists_waiting
  exact ⟨_, hexec, hanswers, rfl⟩

/-- Settles O53: each command by its arguments and the lane it names. -/
theorem laneCommands : Obligations.LaneCommands := by
  intro tag lane s htake
  refine ⟨fun hbad => ⟨fun enable pref => ?_, ?_, fun abilities => ?_, ?_⟩, fun l hl => ?_⟩
  · exact completes_of_reply (exec_laneSet_of_refused htake tag (.inl hbad)) rfl rfl
  · exact completes_of_reply (exec_laneGet_of_outOfRange htake tag hbad) rfl rfl
  · exact completes_of_reply (exec_laneRetune_of_refused htake tag (.inl hbad)) rfl rfl
  · exact completes_of_reply (exec_laneWake_of_outOfRange htake tag hbad) rfl rfl
  intro x
  refine ⟨fun enable pref hbad => ?_, fun enable pref on want hon hwant => ?_, ?_,
    fun abilities hbad => ?_, fun abilities hne hlt => ?_, fun hdoze => ?_, fun hawake => ?_⟩
  · exact completes_of_reply (exec_laneSet_of_refused htake tag (.inr hbad)) rfl rfl
  · intro cmd written
    have hexec := exec_laneSet_of_lane htake tag hl hon hwant
    refine ⟨fun hplain => completes_modLane (hexec.trans (congrArg Host.Outcome.next ?_)),
      fun hyes hdisabled hbound => ?_, fun hno henabled hrunning => ?_⟩
    · dsimp only
      obtain hsame | ⟨rfl, hunbound⟩ | ⟨rfl, hoff⟩ := hplain
      · exact if_pos hsame
      · have hunbound : ¬ (s.lane l).boundPort.isSome = true := by
          rw [show (s.lane l).boundPort = none from hunbound]
          decide
        rw [if_pos rfl, if_neg hunbound, ite_self]
      · rw [if_neg (by decide : ¬ false = true), if_pos hoff, ite_self]
    · subst hyes
      rw [if_neg (by rw [show (s.lane l).enable = false from hdisabled]; decide), if_pos rfl,
        if_pos (Option.isSome_iff_ne_none.mpr hbound)] at hexec
      obtain ⟨hstate, henable, hpref, hround, -, -, hseq, -⟩ := State.enterSeek_lane
        ((s.reply tag Kind.laneSet .ok).modLane l fun x => { x with enable := true, pref := want }) l
      rw [State.lane_modLane_same] at henable hpref hround
      exact ⟨_, hexec, (s.reply_answers ..).of_alters
        ((State.informs_modLane _ l _).toAlters.trans (State.enterSeek_alters _ l)),
        hstate, henable, hpref, hround, hseq⟩
    · subst hno
      rw [if_neg (by rw [show (s.lane l).enable = true from henabled]; decide),
        if_neg (by decide : ¬ false = true), if_neg hrunning] at hexec
      obtain ⟨hstate, henable, hpref, hrole, hprofile, hunit, herrors, hframe, hlost⟩ :=
        State.enterOff_lane
          ((s.reply tag Kind.laneSet .ok).modLane l fun x => { x with enable := false, pref := want }) l
      rw [State.lane_modLane_same] at henable hpref hframe hlost
      rw [reply_lane] at hframe hlost
      exact ⟨_, hexec, (s.reply_answers ..).of_alters
        ((State.informs_modLane _ l _).toAlters.trans (State.enterOff_alters _ l)),
        hstate, henable, hpref, hrole, hprofile, hunit, herrors, hframe, hlost⟩
  · exact completes_modLane (exec_laneGet_of_lane htake tag hl)
  · refine completes_of_reply (exec_laneRetune_of_refused htake tag (.inr (hbad.imp_left ?_))) rfl rfl
    exact congrArg BitVec.toNat
  · intro cmd set
    have hgood : ¬ (abilities.toNat = 0 ∨ 4 ≤ abilities.toNat) := by
      rintro (h | h)
      · exact hne (BitVec.eq_of_toNat_eq h)
      · exact hlt.not_ge h
    have hexec := exec_laneRetune_of_lane htake tag hl hgood
    refine ⟨fun hoff => ?_, fun hdoze => ?_, fun hoff hdoze => ?_⟩
    · rw [if_pos hoff] at hexec
      exact completes_of_reply hexec rfl rfl
    · rw [if_neg (by rw [show (s.lane l).state = .doze from hdoze]; decide), if_pos hdoze] at hexec
      obtain ⟨hstate, -, -, -, habilities, hunit, hseq, -⟩ := State.enterSeek_lane
        ((s.reply tag Kind.laneRetune .ok).modLane l fun x => { x with abilities := set }) l
      rw [State.lane_modLane_same] at habilities
      exact ⟨_, hexec, (s.reply_answers ..).of_alters
        ((State.informs_modLane _ l _).toAlters.trans (State.enterSeek_alters _ l)),
        hstate, habilities, hunit, hseq⟩
    · rw [if_neg hoff, if_neg hdoze] at hexec
      exact completes_of_reply hexec rfl rfl
  · have hexec := exec_laneWake_of_lane htake tag hl
    rw [if_pos hdoze, State.enterWaking_of_doze (by rw [reply_lane]; exact hdoze)]
      at hexec
    exact completes_modLane hexec
  · have hexec := exec_laneWake_of_lane htake tag hl
    rw [if_neg hawake] at hexec
    exact completes_of_reply hexec rfl rfl

end Sys2Proof.Machine
end

section
/-! PROOFS. The claim operations (O26, O27): what becomes of the rows, and who is informed. -/

namespace Sys2Proof.Machine

/-- Every lane. -/
def anyLane : LaneNo → Prop := fun _ => True

namespace State

/-! ## Who is informed (R39) -/

theorem returnToLive_informs (s : State) (l : LaneNo) : Informs (· = l) s (s.returnToLive l) := by
  rw [returnToLive, changeLaneState_of_delivers _ _ rfl]
  exact (s.arriveAt_informs l .live).modLane _

theorem refreshTalkClaim_informs (s : State) (p : PortNo) :
    Informs anyLane s (s.refreshTalkClaim p) := by
  refine Informs.foldl (fun u l => ?_) _ s
  dsimp only
  split
  · exact .refl _ u
  · have hclaim := (u.informs_modLane l fun x => { x with talkClaim := u.talkClaimOf p }).mono
      (m := anyLane) fun _ _ => trivial
    split
    · exact hclaim.trans ((returnToLive_informs _ l).mono fun _ _ => trivial)
    · exact hclaim

theorem entryChanged_informs (s : State) (src dst : PortNo) :
    Informs anyLane s (s.entryChanged src dst) :=
  ((((s.informs_reassessDuck dst).trans (informs_refreshOnAir _ src)).of_noLane).trans
    (refreshTalkClaim_informs _ src)).trans (refreshTalkClaim_informs _ dst)

/-- Where neither port has lanes, only the duck unit of the destination is informed. -/
theorem entryChanged_of_no_lanes {s : State} {src dst : PortNo} (hsrc : (s.port src).boundLanes = [])
    (hdst : (s.port dst).boundLanes = []) : s.entryChanged src dst = s.reassessDuck dst := by
  have hport (p : PortNo) := ((s.informs_reassessDuck dst).port p).boundLanes
  have hsrc' := (hport src).trans hsrc
  have hdst' := (hport dst).trans hdst
  have honAir : (s.reassessDuck dst).refreshOnAir src = s.reassessDuck dst := by
    rw [refreshOnAir, hsrc', List.foldl_nil]
  have hclaim (p : PortNo) (h : ((s.reassessDuck dst).port p).boundLanes = []) :
      (s.reassessDuck dst).refreshTalkClaim p = s.reassessDuck dst := by
    rw [refreshTalkClaim, h, List.foldl_nil]
  rw [entryChanged, honAir, hclaim src hsrc', hclaim dst hdst']

/-! ## The row of a pair -/

/-- From `s` to `t` the row of `dst` becomes `row`, and those who depend on it are informed. -/
structure Rewrites (src dst : PortNo) (row : List Entry) (s t : State) : Prop where
  frame : ∃ ports xp ducks arbiter lanes,
    t = { s with ports := ports, xp := xp, ducks := ducks, arbiter := arbiter, lanes := lanes }
  into : (t.into dst).map Entry.contents = row.map Entry.contents
  others : ∀ d, d ≠ dst → (t.into d).map Entry.contents = (s.into d).map Entry.contents
  noLanes : (s.port src).boundLanes = [] → (s.port dst).boundLanes = [] →
    t.xp = s.xp.set dst row ∧ t.lanes = s.lanes ∧ t.arbiter = s.arbiter

theorem setInto_rewrites (s : State) (src dst : PortNo) (row : List Entry) :
    s.Rewrites src dst row ((s.setInto dst row).entryChanged src dst) := by
  have hinforms := (s.setInto dst row).entryChanged_informs src dst
  refine ⟨?_, (hinforms.contents dst).trans ?_, fun d hd => (hinforms.contents d).trans ?_,
    fun hsrc hdst => ?_⟩
  · obtain ⟨ports, xp, ducks, arbiter, lanes, ht⟩ := hinforms.exists
    exact ⟨ports, xp, ducks, arbiter, lanes, ht⟩
  · rw [into_setInto, if_pos rfl]
  · rw [into_setInto, if_neg hd]
  · rw [entryChanged_of_no_lanes (s := s.setInto dst row) hsrc hdst]
    exact ⟨rfl, rfl, rfl⟩

/-! ## The job served -/

/-- Only the job in service is changed, so a change of it is one of that job. -/
theorem modJobServed_of {s t : State} {j : Job} {f g : Job → Job} (hserved : s.jobServed? = some j)
    (hwriter : t.writer = s.writer) (hfg : f j = g j) :
    t.modJobServed f = { t with writer := (s.modJobServed g).writer } := by
  have hjob : (s.modJobServed f).writer = (s.modJobServed g).writer := by
    revert hserved
    simp only [jobServed?, modJobServed, modWriter]
    obtain ⟨state, talkPos, hostPos, _, _, _, _, _⟩ := s.writer
    cases state with
    | servingTalk =>
      rintro rfl
      simp only [Option.map_some, hfg]
    | servingHost =>
      rintro rfl
      simp only [Option.map_some, hfg]
    | free => exact fun _ => rfl
    | committing => exact fun h => nomatch h
  rw [← hjob]
  unfold modJobServed modWriter
  rw [hwriter]

end State

/-- The operation at the head of the job in service is performed and leaves the job. -/
theorem serveHead_eq {s : State} {j : Job} {op : ClaimOp} {rest : List ClaimOp}
    {p : ClaimOp → Bool} (hserved : s.jobServed? = some j) (hops : j.ops = op :: rest)
    (hp : p op = true) : s.serveHead p = s.serveOp op := by
  rw [State.serveHead, hserved]
  simp only [hops, hp, if_true]

section
variable {s : State} (hheld : s.resetHeld = false) {j : Job} {rest : List ClaimOp}
  (hserved : s.jobServed? = some j)
include hheld hserved

theorem exec_claimPlace {src dst : PortNo} {origin : Origin} {level : Nat} {cls : XpClass}
    (hops : j.ops = .place src dst origin level cls :: rest) :
    exec .claimPlace s = .next (s.serveOp (.place src dst origin level cls)) := by
  have hexec : exec .claimPlace s = .next _ := exec_of_event hheld fun _ => rfl
  rw [hexec, serveHead_eq hserved hops rfl]

theorem exec_claimWithdraw {src dst : PortNo} {origin : Origin}
    (hops : j.ops = .withdraw src dst origin :: rest) :
    exec .claimWithdraw s = .next (s.serveOp (.withdraw src dst origin)) := by
  have hexec : exec .claimWithdraw s = .next _ := exec_of_event hheld fun _ => rfl
  rw [hexec, serveHead_eq hserved hops rfl]

theorem exec_claimLevelChange {id : TalkId} {level : Nat} {pairs : List (PortNo × PortNo)}
    (hops : j.ops = .levelChange id level pairs :: rest) :
    exec .claimLevelChange s = .next (s.serveOp (.levelChange id level pairs)) := by
  have hexec : exec .claimLevelChange s = .next _ := exec_of_event hheld fun _ => rfl
  rw [hexec, serveHead_eq hserved hops rfl]

end

/-! ## Placements (R29) -/

namespace State

/-- A placement performed: the state it leaves, and the job with its outcome. -/
theorem serveOp_place {s u : State} {j : Job} {src dst : PortNo} {origin : Origin} {level : Nat}
    {cls : XpClass} {rest : List ClaimOp} {outcome : PlaceOutcome} (hserved : s.jobServed? = some j)
    (hops : j.ops = .place src dst origin level cls :: rest)
    (hplace : s.placeClaim src dst origin level cls = (u, outcome)) (hwriter : u.writer = s.writer) :
    s.serveOp (.place src dst origin level cls) =
      { u with writer := (s.modJobServed fun j =>
        { j with ops := rest, results := j.results ++ [⟨src, dst, origin, outcome⟩] }).writer } := by
  rw [serveOp, performOp, hplace]
  refine modJobServed_of hserved hwriter ?_
  rw [hops]
  rfl

/-- A placement that leaves the table alone. -/
theorem serveOp_place_refused {s : State} {j : Job} {src dst : PortNo} {origin : Origin} {level : Nat}
    {cls : XpClass} {rest : List ClaimOp} {outcome : PlaceOutcome} (hserved : s.jobServed? = some j)
    (hops : j.ops = .place src dst origin level cls :: rest)
    (hplace : s.placeClaim src dst origin level cls = (s, outcome)) :
    s.serveOp (.place src dst origin level cls) =
      s.modJobServed fun j =>
        { j with ops := rest, results := j.results ++ [⟨src, dst, origin, outcome⟩] } :=
  serveOp_place hserved hops hplace rfl

end State

/-- Settles O26: the eight cases in their order; those that place by what a rewritten row leaves. -/
theorem placementTakesTheFirstCase : Obligations.PlacementTakesTheFirstCase := by
  intro s j src dst origin level cls rest hheld hserved hops claim served places rewritten
  have hexec := exec_claimPlace hheld hserved hops
  have hrefused {outcome : PlaceOutcome}
      (hplace : s.placeClaim src dst origin level cls = (s, outcome)) :
      exec .claimPlace s = .next (served outcome) := by
    rw [hexec, State.serveOp_place_refused hserved hops hplace]
  have hplaces {row : List Entry} {outcome : PlaceOutcome}
      (hplace : s.placeClaim src dst origin level cls =
        ((s.setInto dst row).entryChanged src dst, outcome)) : places row outcome := by
    have hrewrites := s.setInto_rewrites src dst row
    generalize State.entryChanged _ src dst = u at hplace hrewrites
    obtain ⟨hframe, hinto, hothers, hnoLanes⟩ := hrewrites
    obtain ⟨ports, xp, ducks, arbiter, lanes, rfl⟩ := hframe
    rw [State.serveOp_place hserved hops hplace rfl] at hexec
    exact ⟨_, hexec, ⟨State.FormsReplies.refl s, rfl, rfl⟩, hinto, hothers, hnoLanes, rfl⟩
  have hused (hsrc : (s.port src).cls ≠ .unused) (hdst : (s.port dst).cls ≠ .unused) :
      ¬ ((s.port src).cls = .unused ∨ (s.port dst).cls = .unused) := by simp [hsrc, hdst]
  refine ⟨fun hself => hrefused ?_, fun hself hunused => hrefused ?_, fun hself hsrc hdst =>
    ⟨fun e he => ⟨fun horigin => hplaces ?_, fun horigin hfull => hrefused ?_,
      fun horigin hroom => hplaces ?_⟩, fun hnone => ⟨fun hfull => hrefused ?_,
        fun hrow hroom => hplaces ?_⟩⟩⟩
  · simp only [State.placeClaim, if_pos hself]
  · simp only [State.placeClaim, if_neg hself, if_pos hunused]
  · simp only [State.placeClaim, if_neg hself, if_neg (hused hsrc hdst), he, if_pos horigin]
    rfl
  · simp only [State.placeClaim, if_neg hself, if_neg (hused hsrc hdst), he, horigin,
      Bool.false_eq_true, if_false, if_pos hfull]
  · simp only [State.placeClaim, if_neg hself, if_neg (hused hsrc hdst), he, horigin,
      Bool.false_eq_true, if_false, if_neg hroom.not_ge]
    rfl
  · simp only [State.placeClaim, if_neg hself, if_neg (hused hsrc hdst), hnone, if_pos hfull]
  · simp only [State.placeClaim, if_neg hself, if_neg (hused hsrc hdst), hnone,
      if_neg (not_or.mpr ⟨hrow.not_ge, hroom.not_ge⟩)]
    rfl

/-! ## Level changes (R31) -/

/-- An entry with the level of one talk's claim set. -/
def Entry.withLevel (e : Entry) (id : TalkId) (level : Nat) : Entry :=
  e.withClaims (e.claims.map fun c => if c.origin = .talk id then { c with level := level } else c)

/-- An entry after a level change on the pairs of a list: set where it holds the talk's claim. -/
def Entry.relevelled (id : TalkId) (level : Nat) (pairs : List (PortNo × PortNo)) (d : PortNo)
    (e : Entry) : Entry :=
  if (e.source, d) ∈ pairs ∧ e.hasOrigin (.talk id) = true then e.withLevel id level else e

section
variable (id : TalkId) (level : Nat) (pairs : List (PortNo × PortNo)) (d : PortNo)

theorem relevelled_source (e : Entry) : (e.relevelled id level pairs d).source = e.source := by
  unfold Entry.relevelled
  split <;> rfl

theorem hasOrigin_withLevel (e : Entry) (o : Origin) :
    (e.withLevel id level).hasOrigin o = e.hasOrigin o := by
  simp only [Entry.hasOrigin, Entry.withLevel, Entry.withClaims, List.any_map]
  refine congrArg₂ _ rfl (funext fun c => ?_)
  rw [Function.comp_apply]
  split <;> rfl

theorem withLevel_twice (e : Entry) :
    (e.withLevel id level).withLevel id level = e.withLevel id level := by
  have hclaims : (e.withLevel id level).claims.map
      (fun c => if c.origin = .talk id then { c with level := level } else c) =
      (e.withLevel id level).claims := by
    simp only [Entry.withLevel, Entry.withClaims, List.map_map]
    refine List.map_congr_left fun c _ => ?_
    by_cases hc : c.origin = .talk id
    · simp [hc]
    · simp [hc]
  change (e.withLevel id level).withClaims _ = _
  rw [hclaims]
  rfl

/-- A list of pairs is one pair, then the rest. -/
theorem relevelled_cons (pair : PortNo × PortNo) (e : Entry) :
    (e.relevelled id level [pair] d).relevelled id level pairs d =
      e.relevelled id level (pair :: pairs) d := by
  unfold Entry.relevelled
  by_cases horigin : e.hasOrigin (.talk id) = true
  · by_cases hpair : (e.source, d) = pair
    · have hsource : (e.withLevel id level).source = e.source := rfl
      simp [hpair, horigin, hasOrigin_withLevel, withLevel_twice, hsource]
    · simp [hpair, horigin]
  · simp [horigin]

/-- The contents after a level change follow from the contents before it. -/
theorem contents_relevelled_congr {es es' : List Entry}
    (h : es'.map Entry.contents = es.map Entry.contents) :
    (es'.map (Entry.relevelled id level pairs d)).map Entry.contents =
      (es.map (Entry.relevelled id level pairs d)).map Entry.contents := by
  have hcontents (e : Entry) : (e.relevelled id level pairs d).contents =
      ((e.withState .live).relevelled id level pairs d).contents := by
    change _ = (if (e.source, d) ∈ pairs ∧ e.hasOrigin (.talk id) = true then
      (e.withState .live).withLevel id level else e.withState .live).contents
    unfold Entry.relevelled
    split <;> rfl
  have hmap (es : List Entry) : (es.map (Entry.relevelled id level pairs d)).map Entry.contents =
      (es.map Entry.contents).map fun c =>
        ((⟨c.1, c.2.1, c.2.2.1, c.2.2.2, .live⟩ : Entry).relevelled id level pairs d).contents := by
    rw [List.map_map, List.map_map]
    exact List.map_congr_left fun e _ => hcontents e
  rw [hmap, hmap, h]

end

namespace State

/-- From `s` to `t` a talk's claims on the pairs of a list have their level set. -/
structure Relevels (id : TalkId) (level : Nat) (pairs : List (PortNo × PortNo)) (s t : State) : Prop where
  frame : ∃ ports xp ducks arbiter lanes,
    t = { s with ports := ports, xp := xp, ducks := ducks, arbiter := arbiter, lanes := lanes }
  contents : ∀ d, (t.into d).map Entry.contents =
    ((s.into d).map (Entry.relevelled id level pairs d)).map Entry.contents

theorem Relevels.sources {id : TalkId} {level : Nat} {pairs : List (PortNo × PortNo)} {s t : State}
    (h : s.Relevels id level pairs t) (d : PortNo) :
    (t.into d).map Entry.source = (s.into d).map Entry.source := by
  rw [sources_of_contents (h.contents d), List.map_map]
  exact List.map_congr_left fun e _ => relevelled_source id level pairs d e

/-- Rows in which no entry of the pair holds the talk's claim are left alone. -/
theorem relevels_refl {s : State} {id : TalkId} (level : Nat) {pair : PortNo × PortNo}
    (h : ∀ e ∈ s.into pair.2, e.source = pair.1 → e.hasOrigin (.talk id) = false) :
    s.Relevels id level [pair] s := by
  refine ⟨⟨_, _, _, _, _, rfl⟩, fun d => congrArg _ ?_⟩
  refine ((List.map_congr_left fun e he => ?_).trans (List.map_id _)).symm
  refine if_neg fun ⟨hpair, horigin⟩ => ?_
  obtain rfl := List.mem_singleton.mp hpair
  rw [h e he rfl] at horigin
  cases horigin

theorem changeClaimLevel_relevels {s : State} (id : TalkId) (level : Nat) (pair : PortNo × PortNo)
    (hnodup : ((s.into pair.2).map Entry.source).Nodup) :
    s.Relevels id level [pair] (s.changeClaimLevel id level pair) := by
  unfold changeClaimLevel
  split
  · next hnone =>
    refine relevels_refl level fun e he hsource => ?_
    exact absurd hsource (by simpa using List.find?_eq_none.mp hnone e he)
  · next e he =>
    obtain ⟨hmem, hsource⟩ := mem_of_entry? he
    have heq {x : Entry} (hx : x ∈ s.into pair.2) (hx' : x.source = pair.1) : x = e :=
      eq_of_source hnodup hx hmem (hx'.trans hsource.symm)
    split
    · next horigin =>
      obtain ⟨hframe, hinto, hothers, -⟩ := s.setInto_rewrites pair.1 pair.2
        ((s.into pair.2).map (Entry.relevelled id level [pair] pair.2))
      have hrow : s.setClaims pair.1 pair.2
          (e.claims.map fun c => if c.origin = .talk id then { c with level := level } else c) =
          s.setInto pair.2 ((s.into pair.2).map (Entry.relevelled id level [pair] pair.2)) := by
        refine congrArg (s.setInto pair.2) (List.map_congr_left fun x hx => ?_)
        by_cases hx' : x.source = pair.1
        · have hpair : (e.source, pair.2) ∈ [pair] := by rw [hsource]; exact List.mem_singleton.mpr rfl
          rw [if_pos hx', heq hx hx', Entry.relevelled, if_pos ⟨hpair, horigin⟩]
          rfl
        · rw [if_neg hx', Entry.relevelled, if_neg fun h =>
            hx' (congrArg Prod.fst (List.mem_singleton.mp h.1))]
      dsimp only
      rw [hrow]
      refine ⟨hframe, fun d => ?_⟩
      by_cases hd : d = pair.2
      · rw [hd]
        exact hinto
      · have hnone : Entry.relevelled id level [pair] d = fun x => x := funext fun x =>
          if_neg fun h => hd (congrArg Prod.snd (List.mem_singleton.mp h.1))
        rw [hothers d hd, hnone, List.map_id']
    · next horigin =>
      refine relevels_refl level fun x hx hx' => ?_
      rw [heq hx hx']
      simpa using horigin

theorem changeLevels_relevels (id : TalkId) (level : Nat) (pairs : List (PortNo × PortNo)) {s : State}
    (hnodup : ∀ d, ((s.into d).map Entry.source).Nodup) :
    s.Relevels id level pairs (s.changeLevels id level pairs) := by
  unfold changeLevels
  induction pairs generalizing s with
  | nil =>
    refine ⟨⟨_, _, _, _, _, rfl⟩, fun d => ?_⟩
    have hnone (e : Entry) : e.relevelled id level [] d = e := if_neg fun h => List.not_mem_nil h.1
    simp [hnone]
  | cons pair pairs ih =>
    have hfirst := changeClaimLevel_relevels id level pair (hnodup pair.2)
    have hrest := ih (s := s.changeClaimLevel id level pair) fun d => by
      rw [hfirst.sources d]
      exact hnodup d
    refine ⟨?_, fun d => (hrest.contents d).trans ?_⟩
    · obtain ⟨_, _, _, _, _, hu⟩ := hfirst.frame
      obtain ⟨_, _, _, _, _, ht⟩ := hrest.frame
      rw [hu] at ht
      exact ⟨_, _, _, _, _, by rw [List.foldl_cons, hu]; exact ht⟩
    · rw [contents_relevelled_congr id level pairs d (hfirst.contents d), List.map_map,
        List.map_map, List.map_map]
      refine List.map_congr_left fun e _ => ?_
      simp only [Function.comp_apply, relevelled_cons]

end State

/-! ## Withdrawals (R30) -/

/-- An operation without an outcome performed: the state it leaves, and the job without it. -/
theorem serveOp_plain {s u : State} {j : Job} {op : ClaimOp} {rest : List ClaimOp}
    (hserved : s.jobServed? = some j) (hops : j.ops = op :: rest)
    (hperform : s.performOp op = (u, none)) (hwriter : u.writer = s.writer) :
    s.serveOp op =
      { u with writer := (s.modJobServed fun j => { j with ops := rest }).writer } := by
  rw [State.serveOp, hperform]
  refine State.modJobServed_of hserved hwriter ?_
  rw [hops, Option.toList_none, List.append_nil]
  rfl

/-- A withdrawal finds no claim of the origin. -/
theorem withdrawClaim_of_absent {s : State} {src dst : PortNo} {origin : Origin}
    (h : ∀ e, s.entry? src dst = some e → e.hasOrigin origin = false) :
    s.withdrawClaim src dst origin = s := by
  unfold State.withdrawClaim
  split
  · rfl
  · next e he => exact if_neg (by rw [h e he]; decide)

/-- The row of a pair once one origin's claim has been withdrawn from an entry. -/
def State.rowWithout (s : State) (src dst : PortNo) (left : List Claim) : List Entry :=
  if left = [] then (s.into dst).filter fun x => x.source ≠ src
  else (s.into dst).map fun x => if x.source = src then x.withClaims left else x

theorem withdrawClaim_of_present {s : State} {src dst : PortNo} {origin : Origin} {e : Entry}
    (he : s.entry? src dst = some e) (h : e.hasOrigin origin = true) :
    s.withdrawClaim src dst origin =
      (s.setInto dst (s.rowWithout src dst
        (e.claims.filter fun c => c.origin ≠ origin))).entryChanged src dst := by
  simp only [State.withdrawClaim, he, if_pos h, State.rowWithout, List.isEmpty_iff]
  split <;> rfl

/-- Settles O27: the withdrawal by its row, the level change pair by pair. -/
theorem withdrawalAndLevelChange : Obligations.WithdrawalAndLevelChange := by
  intro s j rest hheld hsound hserved served leaves
  refine ⟨fun src dst origin hops => ⟨fun habsent => ?_, fun e he horigin => ?_⟩,
    fun id level pairs hops => ?_⟩
  · rw [exec_claimWithdraw hheld hserved hops, serveOp_plain hserved hops (u := s) (by
      rw [State.performOp, withdrawClaim_of_absent habsent]) rfl]
    rfl
  · intro left
    have hexec := exec_claimWithdraw hheld hserved hops
    obtain ⟨hframe, hinto, hothers, -⟩ := s.setInto_rewrites src dst (s.rowWithout src dst left)
    have hwithdraw := withdrawClaim_of_present he horigin
    generalize State.entryChanged _ src dst = u at hwithdraw hframe hinto hothers
    obtain ⟨ports, xp, ducks, arbiter, lanes, rfl⟩ := hframe
    rw [serveOp_plain hserved hops (congrArg (·, none) hwithdraw) rfl] at hexec
    refine ⟨_, hexec, ⟨State.FormsReplies.refl s, rfl, rfl⟩, fun d => ?_, rfl⟩
    by_cases hd : d = dst
    · subst hd
      exact hinto.trans (congrArg (List.map Entry.contents) (if_pos rfl).symm)
    · exact (hothers d hd).trans (congrArg (List.map Entry.contents) (if_neg hd).symm)
  · have hexec := exec_claimLevelChange hheld hserved hops
    obtain ⟨-, hrows⟩ := hsound
    obtain ⟨hframe, hcontents⟩ := State.changeLevels_relevels id level pairs fun d => (hrows d).2.1
    generalize hu : s.changeLevels id level pairs = u at hframe hcontents
    obtain ⟨ports, xp, ducks, arbiter, lanes, rfl⟩ := hframe
    rw [serveOp_plain hserved hops (congrArg (·, none) hu) rfl] at hexec
    exact ⟨_, hexec, ⟨State.FormsReplies.refl s, rfl, rfl⟩, hcontents, rfl⟩

end Sys2Proof.Machine
end

section
/-! PROOFS. PORT-SET LANES (O22): the lanes that leave, the binding written, the lanes that join. -/

namespace Sys2Proof.Machine

/-- A lane that has left its binding: OFF and unbound. -/
def Lane.Left (x : Lane) : Prop := x.state = .off ∧ x.boundPort = none

/-- A lane that has joined the binding of a port: bound to it, and in a fresh handshake if it is enabled. -/
structure Lane.Joined (p : PortNo) (x y : Lane) : Prop where
  boundPort : y.boundPort = some p
  enable : y.enable = x.enable
  enabled : x.enable = true → y.state = .seek
  disabled : x.enable = false → y.state = x.state

theorem Lane.Joined.trans {p : PortNo} {x y z : Lane} (h : x.Joined p y) (k : y.Joined p z) :
    x.Joined p z where
  boundPort := k.boundPort
  enable := k.enable.trans h.enable
  enabled hx := k.enabled (h.enable.trans hx)
  disabled hx := (k.disabled (h.enable.trans hx)).trans (h.disabled hx)

theorem Lane.Joined.of_onAir {p : PortNo} {x y z w : Lane} (hx : x.SameButOnAir y) (h : y.Joined p z)
    (hz : z.SameButOnAir w) : x.Joined p w := by
  rw [hx] at h
  rw [hz]
  exact ⟨h.boundPort, h.enable, h.enabled, h.disabled⟩

namespace State

theorem unbindLane_alters (s : State) (l : LaneNo) : Alters (· = l) s (s.unbindLane l) :=
  (s.enterOff_alters l).modLane _

theorem unbindLane_left (s : State) (l : LaneNo) : ((s.unbindLane l).lane l).Left := by
  obtain ⟨hstate, -⟩ := s.enterOff_lane l
  rw [unbindLane, lane_modLane_same]
  exact ⟨hstate, rfl⟩

theorem bindLane_alters (s : State) (p : PortNo) (l : LaneNo) : Alters (· = l) s (s.bindLane p l) := by
  unfold bindLane
  dsimp only
  split
  · exact (informs_modLane _ l _).toAlters.trans (enterSeek_alters _ l)
  · exact (informs_modLane _ l _).toAlters

theorem bindLane_joined (s : State) (p : PortNo) (l : LaneNo) :
    (s.lane l).Joined p ((s.bindLane p l).lane l) := by
  unfold bindLane
  dsimp only
  generalize hu : s.modLane l _ = u
  have hlane : u.lane l =
      { s.lane l with
        boundPort := some p
        onAir := s.onAirOf p, talkClaim := s.talkClaimOf p, localCall := s.localCallOf p } := by
    rw [← hu, lane_modLane_same]
  have henable : (u.lane l).enable = (s.lane l).enable := by rw [hlane]
  split
  · next hon =>
    obtain ⟨hstate, hkept, -, -, -, -, -, hbound⟩ := u.enterSeek_lane l
    refine ⟨hbound.trans (by rw [hlane]), hkept.trans henable, fun _ => hstate, fun hoff => ?_⟩
    rw [henable, hoff] at hon
    cases hon
  · next hoff =>
    refine ⟨by rw [hlane], henable, fun hon => absurd (henable.trans hon) hoff, fun _ => by rw [hlane]⟩

section
variable {f : State → LaneNo → State} (hf : ∀ u l, Alters (· = l) u (f u l))
include hf

/-- Operations on the lanes of a list, one after the other, leave the other lanes alone. -/
theorem foldl_alters (ls : List LaneNo) (s : State) : Alters (· ∈ ls) s (ls.foldl f s) := by
  induction ls generalizing s with
  | nil => exact .refl _ s
  | cons l ls ih =>
    exact ((hf s l).mono fun k hk => hk ▸ List.mem_cons_self).trans
      ((ih _).mono fun k hk => List.mem_cons_of_mem _ hk)

/-- What each operation does to its lane, which a later one does again or leaves, stands at the end. -/
theorem foldl_each {Q : Lane → Lane → Prop} (hQ : ∀ u l, Q (u.lane l) ((f u l).lane l))
    (htrans : ∀ {x y z}, Q x y → Q y z → Q x z)
    (honAir : ∀ {x y z w : Lane}, x.SameButOnAir y → Q y z → z.SameButOnAir w → Q x w)
    {ls : List LaneNo} {l : LaneNo} (hl : l ∈ ls) (s : State) :
    Q (s.lane l) ((ls.foldl f s).lane l) := by
  induction ls generalizing s with
  | nil => cases hl
  | cons k ls ih =>
    by_cases hmem : l ∈ ls
    · by_cases hk : l = k
      · subst hk
        exact htrans (hQ s l) (ih hmem _)
      · exact honAir ((hf s k).lane l hk) (ih hmem _) rfl
    · obtain rfl := (List.mem_cons.mp hl).resolve_right hmem
      exact honAir (x := s.lane l) (y := s.lane l) rfl (hQ s l) ((foldl_alters hf ls _).lane l hmem)

end

end State

/-! ## The binding (R25) -/

/-- The lanes a binding names. -/
def LaneBinding.lanes (b : LaneBinding) : List LaneNo := b.primary.toList ++ b.backup.toList

namespace State

/-- What writing a binding does: the lanes that leave are OFF and unbound, those that join are bound, the others
stay, and no other binding is written. -/
structure Rebinds (p : PortNo) (b : LaneBinding) (old : List LaneNo) (s t : State) : Prop where
  frame : ∃ ports ducks xp arbiter lanes buffers units,
    t = { s with
      ports := ports, ducks := ducks, xp := xp, arbiter := arbiter, lanes := lanes
      buffers := buffers, units := units }
  binding : ∀ q, (t.port q).binding = if q = p then some b else (s.port q).binding
  left : ∀ l, l ∈ old → l ∉ b.lanes → (t.lane l).Left
  joined : ∀ l, l ∈ b.lanes → l ∉ old → (s.lane l).Joined p (t.lane l)
  stayed : ∀ l, (l ∈ b.lanes ↔ l ∈ old) → (s.lane l).SameButOnAir (t.lane l)

/-- The lanes of one list that are not in another. -/
def lanesOnlyIn (a b : List LaneNo) : List LaneNo := a.filter fun l => !b.contains l

theorem mem_lanesOnlyIn {a b : List LaneNo} {l : LaneNo} : l ∈ lanesOnlyIn a b ↔ l ∈ a ∧ l ∉ b := by
  simp [lanesOnlyIn]

theorem rebindLanes_eq (s : State) (p : PortNo) (b : LaneBinding) :
    s.rebindLanes p b =
      (lanesOnlyIn b.lanes (s.port p).boundLanes).foldl (fun s l => s.bindLane p l)
        (((lanesOnlyIn (s.port p).boundLanes b.lanes).foldl unbindLane s).modPort p fun x =>
          { x with binding := some b }) := rfl

theorem rebindLanes_rebinds {s : State} {p : PortNo} {old : List LaneNo} (b : LaneBinding)
    (hold : (s.port p).boundLanes = old) : s.Rebinds p b old (s.rebindLanes p b) := by
  rw [rebindLanes_eq, hold]
  have hleave := foldl_alters unbindLane_alters (lanesOnlyIn old b.lanes) s
  have hleft {l : LaneNo} (hl : l ∈ lanesOnlyIn old b.lanes) :=
    foldl_each unbindLane_alters (Q := fun _ y => y.Left) unbindLane_left (fun _ h => h)
      (fun _ h hz => by rw [hz]; exact h) hl s
  generalize (lanesOnlyIn old b.lanes).foldl unbindLane s = u at hleave hleft
  have hport (q : PortNo) := u.port_modPort p q fun x => { x with binding := some b }
  have hjoin := foldl_alters (fun u l => u.bindLane_alters p l) (lanesOnlyIn b.lanes old)
    (u.modPort p fun x => { x with binding := some b })
  have hjoined {l : LaneNo} (hl : l ∈ lanesOnlyIn b.lanes old) :=
    foldl_each (fun u l => u.bindLane_alters p l) (Q := Lane.Joined p)
      (fun u l => u.bindLane_joined p l) Lane.Joined.trans Lane.Joined.of_onAir hl
      (u.modPort p fun x => { x with binding := some b })
  generalize List.foldl _ _ (lanesOnlyIn b.lanes old) = t at hjoin hjoined ⊢
  refine ⟨?_, fun q => ?_, fun l hold hnew => ?_, fun l hnew hold => ?_, fun l hboth => ?_⟩
  · obtain ⟨_, _, _, _, _, _, _, rfl⟩ := hleave.frame
    obtain ⟨_, _, _, _, _, _, _, rfl⟩ := hjoin.frame
    exact ⟨_, _, _, _, _, _, _, rfl⟩
  · rw [(hjoin.port q).binding, hport]
    split
    · rfl
    · exact (hleave.port q).binding
  · have hstay := hjoin.lane l fun h => hnew (mem_lanesOnlyIn.mp h).1
    rw [hstay]
    exact hleft (mem_lanesOnlyIn.mpr ⟨hold, hnew⟩)
  · exact (hjoined (mem_lanesOnlyIn.mpr ⟨hnew, hold⟩)).of_onAir
      (hleave.lane l fun h => hold (mem_lanesOnlyIn.mp h).1) rfl
  · refine (hleave.lane l fun h => ?_).trans (hjoin.lane l fun h => ?_)
    · obtain ⟨hold, hnew⟩ := mem_lanesOnlyIn.mp h
      exact hnew (hboth.mpr hold)
    · obtain ⟨hnew, hold⟩ := mem_lanesOnlyIn.mp h
      exact hold (hboth.mp hnew)

end State

/-! ## The command -/

theorem numberOrNone?_of {n : Nat} {b : Byte} {x : Option (Fin n)} (hn : n ≤ 255)
    (h : x = none ∧ b = noneCode ∨ ∃ i : Fin n, x = some i ∧ b.toNat = i.val) :
    numberOrNone? n b = some x := by
  obtain ⟨rfl, rfl⟩ | ⟨i, rfl, hi⟩ := h
  · exact numberOrNone?_noneCode n
  · exact numberOrNone?_eq_some hn hi

theorem isSome_of_numberOrNone? {n : Nat} {b : Byte} {x : Option (Fin n)}
    (h : numberOrNone? n b = some x) (hne : b ≠ noneCode) : x.isSome = true := by
  rw [numberOrNone?, if_neg hne] at h
  obtain ⟨i, -, rfl⟩ := Option.map_eq_some_iff.mp h
  rfl

section
variable {s : State} (htake : s.takesCommand = true) (tag : Byte) {port primary backup : Byte}
  (identity : Option Ident) (depth : Byte)
include htake

theorem exec_portSetLanes_of_refused
    (h : 64 ≤ port.toNat ∨ (24 ≤ primary.toNat ∧ primary ≠ noneCode) ∨
      (24 ≤ backup.toNat ∧ backup ≠ noneCode) ∨
      (backup ≠ noneCode ∧ (primary = noneCode ∨ primary = backup))) :
    exec (.portSetLanes tag port primary backup identity depth) s =
      .next (s.reply tag Kind.portSet .badArg) := by
  have hexec : exec (.portSetLanes tag port primary backup identity depth) s = .next _ :=
    exec_of_command htake fun _ => rfl
  rw [hexec]
  split
  · next p first second hp hfirst hsecond =>
    obtain h | ⟨h, hne⟩ | ⟨h, hne⟩ | ⟨hne, h⟩ := h
    · exact absurd (hp.symm.trans (number?_eq_none h)) (by simp)
    · exact absurd (hfirst.symm.trans (numberOrNone?_eq_none h hne)) (by simp)
    · exact absurd (hsecond.symm.trans (numberOrNone?_eq_none h hne)) (by simp)
    · have hbad : second.isSome = true ∧ (first.isNone = true ∨ first = second) := by
        refine ⟨isSome_of_numberOrNone? hsecond hne, h.imp (fun h => ?_) fun h => ?_⟩
        · subst h
          cases (numberOrNone?_noneCode 24).symm.trans hfirst
          rfl
        · subst h
          exact Option.some_inj.mp (hfirst.symm.trans hsecond)
      rw [if_pos hbad]
      rfl
  · rfl

/-- A lane the command names is bound to another port. -/
def State.laneTaken (s : State) (p : PortNo) (lanes : List LaneNo) : Prop :=
  ∃ l ∈ lanes, ∃ q, (s.lane l).boundPort = some q ∧ q ≠ p

theorem exec_portSetLanes_of_port {p : PortNo} {first second : Option LaneNo}
    (hport : port.toNat = p.val) (hfirst : numberOrNone? 24 primary = some first)
    (hsecond : numberOrNone? 24 backup = some second)
    (hgood : second ≠ none → first ≠ none ∧ first ≠ second) :
    ((s.port p).cls ≠ .remote → exec (.portSetLanes tag port primary backup identity depth) s =
      .next (s.reply tag Kind.portSet .wrongClass)) ∧
    ∀ b, (s.port p).cls = .remote → (s.port p).binding = some b →
      (s.laneTaken p (first.toList ++ second.toList) →
        exec (.portSetLanes tag port primary backup identity depth) s =
          .next (s.reply tag Kind.portSet .inUse)) ∧
      (¬ s.laneTaken p (first.toList ++ second.toList) →
        exec (.portSetLanes tag port primary backup identity depth) s =
          .next ((s.reply tag Kind.portSet
            (if 2 ≤ depth.toNat ∧ depth.toNat ≤ 8 then .ok else .clamped)).rebindLanes p
              { b with
                primary := first, backup := second, expected := identity, lead := first
                depth := max 2 (min 8 depth.toNat) })) := by
  have hexec : exec (.portSetLanes tag port primary backup identity depth) s = .next _ :=
    exec_of_command htake fun _ => rfl
  have hfine : ¬ (second.isSome = true ∧ (first.isNone = true ∨ first = second)) := by
    rintro ⟨hsome, h⟩
    obtain ⟨hne, hdiff⟩ := hgood (Option.isSome_iff_ne_none.mp hsome)
    exact h.elim (fun h => hne (Option.isNone_iff_eq_none.mp h)) hdiff
  rw [number?_eq_some hport, hfirst, hsecond] at hexec
  simp only [if_neg hfine] at hexec
  have htaken : ((first.toList ++ second.toList).any fun l =>
      (s.lane l).boundPort.any fun q => decide (q ≠ p)) = true ↔
        s.laneTaken p (first.toList ++ second.toList) := by
    simp only [List.any_eq_true, Option.any_eq_true, decide_eq_true_eq, State.laneTaken]
  refine ⟨fun hcls => ?_, fun b hcls hbinding => ⟨fun h => ?_, fun h => ?_⟩⟩
  · rw [hexec]
    split
    · next heq _ => exact absurd heq hcls
    · rfl
  · rw [hexec, hcls, hbinding]
    dsimp only
    rw [if_pos (htaken.mpr h)]
    rfl
  · have hcode : okOr (!inRange 2 8 depth.toNat) =
        if 2 ≤ depth.toNat ∧ depth.toNat ≤ 8 then .ok else .clamped := by
      simp only [inRange, ← Bool.decide_and]
      by_cases h : 2 ≤ depth.toNat ∧ depth.toNat ≤ 8
      · simp [okOr, h]
      · simp [okOr, h]
    rw [hexec, hcls, hbinding]
    dsimp only
    rw [if_neg (mt htaken.mp h), hcode]
    rfl

end

/-- Settles O22: the refusals in their order; the binding by the lanes that leave, join and stay. -/
theorem laneBindingMovesTheLanes : Obligations.LaneBindingMovesTheLanes := by
  intro tag port primary backup identity depth s htake cmd
  refine ⟨fun hbad => ?_, fun p first second hport hfirst hsecond hgood => ?_⟩
  · exact completes_of_reply (exec_portSetLanes_of_refused htake tag identity depth hbad) rfl rfl
  obtain ⟨hclass, hremote⟩ := exec_portSetLanes_of_port htake tag identity depth hport
    (numberOrNone?_of (by norm_num) hfirst) (numberOrNone?_of (by norm_num) hsecond) hgood
  refine ⟨fun hcls => completes_of_reply (hclass hcls) rfl rfl, fun b hcls hbinding => ?_⟩
  obtain ⟨hinUse, hrebind⟩ := hremote b hcls hbinding
  intro new old
  refine ⟨fun htaken => completes_of_reply (hinUse htaken) rfl rfl, fun hfree => ?_⟩
  have hexec := hrebind fun ⟨l, hl, q, hq, hne⟩ => hne (hfree l hl q hq)
  generalize hu : State.reply _ _ _ _ _ = u at hexec
  have hanswers := hu ▸ State.reply_answers ..
  obtain ⟨rs, tx, q, rfl⟩ := (hu ▸ State.reply_isBut ..).exists_waiting
  have hold : (s.port p).boundLanes = old := by rw [Port.boundLanes, hbinding]
  have hrebinds := State.rebindLanes_rebinds (s := { s with
      control := { s.control with replies := rs, tx := tx }, reports := q })
    { b with
      primary := first, backup := second, expected := identity, lead := first
      depth := max 2 (min 8 depth.toNat) } hold
  generalize State.rebindLanes _ p _ = t at hexec hrebinds
  obtain ⟨hframe, hbound, hleft, hjoined, hstayed⟩ := hrebinds
  refine ⟨t, hexec, ?_, (hbound p).trans (if_pos rfl), fun q hq => (hbound q).trans (if_neg hq),
    hleft, fun l hnew hl => ?_, fun l hl => ?_, ?_⟩
  · obtain ⟨_, _, _, _, _, _, _, rfl⟩ := hframe
    exact hanswers
  · obtain ⟨hport, -, henabled, hdisabled⟩ := hjoined l hnew hl
    exact ⟨hport, henabled, hdisabled⟩
  · exact ⟨(hstayed l hl).state, (hstayed l hl).boundPort⟩
  · obtain ⟨_, _, _, _, _, _, _, rfl⟩ := hframe
    rfl

end Sys2Proof.Machine
end
